-- ==== Sys2Proof/Word.lean ====
section
/-! DEFINITION. The word types of the block (00_scope.md R6, R8): everything is unsigned and bit 0 is the
least significant bit. -/

namespace Sys2Proof

/-- A byte on the data bus (R6: "The data bus `D` is 8 bits"). -/
abbrev Byte := BitVec 8

/-- A 16-bit value: the operand field `arg` of a command and the divisor (R6, R70). -/
abbrev Half := BitVec 16

/-- The bus address `{A1, A0}` (R6, R8, R50). -/
abbrev BusAddr := BitVec 2

/-- A command word, 20 bits, arriving whole on the command port (R6, R70). -/
abbrev CommandWord := BitVec 20

end Sys2Proof
end

