-- ==== Sys2Proof/Config.lean ====
section
/-! DEFINITION. The implementation parameters of 00_scope.md R6, and the free values: opaque constants with no
body for everything the spec calls "any value" or a draw. -/

namespace Sys2Proof

/-- The OPEN parameters of R6, as raw numbers that may or may not describe a block. Frequencies are in Hz, times
in seconds, both rational (log 17). -/
structure Params where
  /-- `N_DLY`: the length of one delay unit in cycles of `clk`. -/
  nDly : Nat
  /-- `W_DLY`: the width of `DLY_CNT` in bits. -/
  wDly : Nat
  /-- `PIN_CS`: the bit of `P_CTRL` that carries CS#. -/
  pinCs : Nat
  /-- `PIN_WR`: the bit of `P_CTRL` that carries WR#. -/
  pinWr : Nat
  /-- `PIN_A0`: the bit of `P_CTRL` that carries A0. -/
  pinA0 : Nat
  /-- `PIN_A1`: the bit of `P_CTRL` that carries A1. -/
  pinA1 : Nat
  /-- `F_CLK`: the frequency of the block clock. -/
  fClk : ℚ
  /-- `F_PIT_CLK`: the frequency of the 8254's Timer 0 clock input (90_conflicts.md C2). -/
  fPitClk : ℚ
  /-- `T_MIN_WR_PULSE`. -/
  tWrPulse : ℚ
  /-- `T_MIN_CS_TO_WR`. -/
  tCsToWr : ℚ
  /-- `T_MIN_ADDR_TO_WR`. -/
  tAddrToWr : ℚ
  /-- `T_MIN_DATA_TO_WRH`. -/
  tDataToWrh : ℚ
  /-- `T_MIN_WRH_TO_CSH`. -/
  tWrhToCsh : ℚ
  /-- `T_MIN_DATA_HOLD`. -/
  tDataHold : ℚ
  /-- `T_MIN_WR_RECOVERY`. -/
  tWrRecovery : ℚ
  /-- `T_MIN_CS_RECOVERY`. -/
  tCsRecovery : ℚ
  /-- The model's own: nonzero divisors below this are the "small" ones whose Timer 0 output 93 U2 calls any
  value. The spec gives no bound (log 13). -/
  smallDivisor : Nat
deriving DecidableEq, Repr

/-- `N_DLY >= 1` (R6). -/
def Params.delayPositive (p : Params) : Bool := decide (1 ≤ p.nDly)

/-- `2*N_DLY - 1 <= 2^W_DLY - 1` (R6, 40_delay.md R97): no load of the delay counter overflows. -/
def Params.counterFits (p : Params) : Bool := decide (2 * p.nDly - 1 ≤ 2 ^ p.wDly - 1)

/-- The four pin positions are "four distinct integers in 0..7" (R6). -/
def Params.pinsDistinct (p : Params) : Bool :=
  decide (p.pinCs < 8 ∧ p.pinWr < 8 ∧ p.pinA0 < 8 ∧ p.pinA1 < 8) &&
  decide ([p.pinCs, p.pinWr, p.pinA0, p.pinA1].Nodup)

/-- `F_CLK > 0` and `F_PIT_CLK > 0` (R6). -/
def Params.clocksPositive (p : Params) : Bool := decide (0 < p.fClk ∧ 0 < p.fPitClk)

/-- Every `T_MIN_*` is at least 0 (R6). -/
def Params.timesNonneg (p : Params) : Bool :=
  decide (0 ≤ p.tWrPulse ∧ 0 ≤ p.tCsToWr ∧ 0 ≤ p.tAddrToWr ∧ 0 ≤ p.tDataToWrh ∧
    0 ≤ p.tWrhToCsh ∧ 0 ≤ p.tDataHold ∧ 0 ≤ p.tWrRecovery ∧ 0 ≤ p.tCsRecovery)

/-- The parameters describe a block: every constraint of R6. Parameters that break one are "not a configuration of
this block" (R97) and are refused (`Sys2Proof.Machine.launch`). -/
def Params.wellFormed (p : Params) : Bool :=
  p.delayPositive && p.counterFits && p.pinsDistinct && p.clocksPositive && p.timesNonneg

/-- A configuration of the block: parameters together with the proof that they meet R6, so that no model of a
block with a truncating counter (R97) can be written down. -/
structure Config where
  params : Params
  valid : params.wellFormed = true
deriving DecidableEq, Repr

/-- `N_DLY`, the length of a delay unit in cycles (R6, R10). -/
abbrev Config.nDly (c : Config) : Nat := c.params.nDly

/-- `F_OSC`, the oscillator of the source's example system: 8 000 000 Hz (R6). No rule of the block depends on it. -/
def exampleOscillator : ℚ := 8000000

/-- One set of parameters that meets R6 (N_DLY = 1 and the source's 8 MHz). It is the witness that configurations
exist, and a starting point for tests; nothing in the model is set to it. -/
def Params.smallest : Params :=
  { nDly := 1, wDly := 1, pinCs := 0, pinWr := 1, pinA0 := 2, pinA1 := 3, fClk := exampleOscillator,
    fPitClk := exampleOscillator,
    tWrPulse := 0, tCsToWr := 0, tAddrToWr := 0, tDataToWrh := 0, tWrhToCsh := 0, tDataHold := 0,
    tWrRecovery := 0, tCsRecovery := 0, smallDivisor := 0 }

theorem Params.smallest_wellFormed : Params.smallest.wellFormed = true := by decide +kernel

/-- Some configuration, with no body: nothing can be proved of it but that it is valid. The argument only shows Lean
that a configuration exists. -/
opaque Config.anyValid [Inhabited Config] : Config

/-- The configuration of the block as built: OPEN (R6, decisions D2, D3, D4, D18, D19), so opaque (log 1). -/
def Config.installed : Config := @Config.anyValid ⟨⟨Params.smallest, Params.smallest_wellFormed⟩⟩

/-- The twelve pins of the bus (10_state.md R31). -/
inductive BusPin where
  | cs
  | wr
  | a0
  | a1
  | d (i : Fin 8)
deriving DecidableEq, Repr

/-- What Timer 0 of the external 8254 is programmed to. -/
inductive Timer0 where
  /-- Programmed with a divisor by the triple of 60_exceptions.md R186, whose last write was emitted out of the
  given cycle. -/
  | squareWave (divisor : Half) (since : Nat)
  /-- Anything else the chip may be doing, which the spec does not describe; the number only tells two such
  behaviours apart. -/
  | unspecified (behaviour : Nat)
deriving DecidableEq, Repr, Inhabited

/-- FREE VALUE. What Timer 0 is doing at a cycle from which the spec leaves the 8254's state "an unconstrained
value: a draw" (R187; 93 U1, U3, U4, U5, U6, U7). -/
opaque Config.timer0Draw : Nat → Timer0

/-- FREE VALUE. The rest of the 8254's state from such a cycle on (R187, 93 U4 "the whole 8254 state"). -/
opaque Config.chipDraw : Nat → Nat

/-- FREE VALUE. The level seen on a pin that is not driven, or that another agent drives, in a cycle
(10_state.md R27; 93 U6, U7). -/
opaque Config.freeLevel : Nat → BusPin → Bool

/-- FREE VALUE. How many cycles after the last write of a triple the output follows it (93 U14). -/
opaque Config.onsetDelay : Nat → Nat

/-- FREE VALUE. The frequency of Timer 0's output in a cycle in which the spec does not give it (93 U2, U14). -/
opaque Config.freeFrequency : Nat → ℚ

end Sys2Proof
end

