-- ==== Sys2Proof/Machine/State.lean ====
section
/-! DEFINITION. The state of the block (10_state.md R21) as plain data, with the inputs of the coming cycles, the
event log and what may be said of the external 8254; the reasons a step can stop; and the state after reset. -/

namespace Sys2Proof.Machine

/-- `PHASE` (R24): a 3-bit register, so the unreachable value 7 is admitted and a step from it faults (R36). -/
inductive Phase where
  | idle
  | xfS
  | xfA
  | xfB
  | xfC
  | xfD
  | dl
  /-- The encoding 7, "unreachable" (R24, R36). -/
  | unused7
deriving DecidableEq, Repr

/-- `SEQ` (R26): which command owns the bus cycle; 2 bits, the value 3 unreachable. -/
inductive Seq where
  | none
  | xfer
  | st0
  /-- The encoding 3, "unreachable" (R26, R36). -/
  | unused3
deriving DecidableEq, Repr

/-- The two causes of an error (60_exceptions.md R171). -/
inductive ErrorCause where
  /-- An illegal command word: `ERR_ILL`. -/
  | illegal
  /-- A legal command other than INIT before INIT: `ERR_NOINIT`. -/
  | notInitialised
deriving DecidableEq, Repr

/-- The event `BusWrite(addr, data)` (20_memory.md R52). -/
structure BusWrite where
  addr : BusAddr
  data : Byte
deriving DecidableEq, Repr

/-- The inputs of one cycle (10_state.md R31), and whether an agent other than the block drives one of the block's
four bits of `P_CTRL` in it (70_reset_and_hazards.md R212). -/
structure Input where
  rst : Bool
  cmdValid : Bool
  cmd : CommandWord
  foreignDrive : Bool
deriving DecidableEq, Repr

/-- A cycle in which the host presents nothing. -/
def Input.quiet : Input := { rst := false, cmdValid := false, cmd := 0, foreignDrive := false }

/-- How much of the triple of 60_exceptions.md R186 the 8254 has received, with no other event between. -/
inductive Progress where
  | start
  | control
  | lsb (b : Byte)
deriving DecidableEq, Repr

/-- The external 8254 as far as the spec speaks of it (60_exceptions.md R185 to R187). -/
structure Pit where
  /-- What Timer 0 is programmed to. -/
  timer0 : Timer0
  /-- The rest of the chip, of which the spec says nothing. -/
  other : Nat
  /-- The model's own record of the last events. -/
  progress : Progress
  /-- The model's own record of the command in progress: in one of its cycles so far the pins were not the block's
  alone (70_reset_and_hazards.md R212, 93 U7; log 27). -/
  strobeDisturbed : Bool
deriving DecidableEq, Repr

/-- The state `s_k` (R10, R21). A `Bool` field is one bit, true for 1; for a line latch 1 is the line HIGH (R9). -/
structure State where
  /-- `OE`, the output enable (R27). -/
  oe : Bool
  /-- `CS_N`, active low (R22). -/
  csN : Bool
  /-- `WR_N`, active low (R22). -/
  wrN : Bool
  /-- `A0` (R22). -/
  a0 : Bool
  /-- `A1` (R22). -/
  a1 : Bool
  /-- `D` (R23). -/
  d : Byte
  /-- `PHASE` (R24). -/
  phase : Phase
  /-- `DLY_CNT` (R25): an unsigned counter of `W_DLY` bits, held as the number it reads (log 2). -/
  dlyCnt : Nat
  /-- `SEQ` (R26). -/
  seq : Seq
  /-- `BYTE_IDX` (R26). -/
  byteIdx : BitVec 2
  /-- `DIV` (R26). -/
  div : Half
  /-- `INIT_DONE` (R29). -/
  initDone : Bool
  /-- `ERR_ILL` (R29). -/
  errIll : Bool
  /-- `ERR_NOINIT` (R29). -/
  errNoInit : Bool
  /-- The parameters the block was built with (R6); no step changes them. -/
  cfg : Config
  /-- The event log, oldest first (R52, R185). -/
  events : List BusWrite
  /-- The inputs of this cycle (the head) and of the coming ones; past the end nothing is presented. -/
  inputs : List Input
  /-- The number of the current cycle (R10), which also names the free values of that cycle. -/
  cycle : Nat
  /-- The external 8254. -/
  pit : Pit
deriving DecidableEq, Repr

/-- Why the machine stops with a fault. -/
inductive Fault where
  /-- `UnreachableState` (R36, 40_delay.md R90, 93 U9): raised by a step from `PHASE = 7`, `SEQ = 3` or
  `BYTE_IDX = 3` with `rst = 0`. Safe: no reachable state has such a value. -/
  | unreachableState
deriving DecidableEq, Repr

/-- Why the model gives no meaning. -/
inductive Refusal where
  /-- An instruction with no meaning yet, raised by an arm of `exec`; no arm does. Safe. -/
  | notModelled (mnemonic : String)
  /-- Parameters that break a constraint of R6, raised by `launch` only: "a model refuses it rather than truncating
  the load" (40_delay.md R97, 93 U13). Safe. -/
  | badConfiguration
deriving DecidableEq, Repr

/-- The 8254 in a state of which nothing is known, from cycle `k` on (60_exceptions.md R187). -/
def Pit.unknown (k : Nat) : Pit :=
  { timer0 := Config.timer0Draw k, other := Config.chipDraw k, progress := .start, strobeDisturbed := false }

/-- The reset state (10_state.md R21 and R33) of a block with the given configuration. -/
def State.resetOf (c : Config) : State :=
  { oe := false, csN := true, wrN := true, a0 := true, a1 := true, d := 0x00, phase := .idle, dlyCnt := 0,
    seq := .none, byteIdx := 0, div := 0x0000, initDone := false, errIll := false, errNoInit := false,
    cfg := c, events := [], inputs := [], cycle := 0, pit := Pit.unknown 0 }

/-- The launch state of a model (70_reset_and_hazards.md R201): the reset state of the block as built. -/
def State.reset : State := State.resetOf Config.installed

end Sys2Proof.Machine
end

