-- ==== Sys2Proof/Machine/Flags.lean ====
section
/-! DEFINITION. The flags and the status the host sees: `STATUS` (10_state.md R28), `cmd_ready` (R30), the acceptance
of a command (30_encoding.md R71), and the writes of the flags (R29). -/

namespace Sys2Proof.Machine

/-- `BUSY`: a command is in progress (R14, R24, R28). -/
def State.busy (s : State) : Bool := s.phase != .idle

/-- `STATUS[3:0] = {ERR_NOINIT, ERR_ILL, INIT_DONE, BUSY}` (R28). -/
def State.status (s : State) : BitVec 4 :=
  BitVec.ofBool s.errNoInit ++ BitVec.ofBool s.errIll ++ BitVec.ofBool s.initDone ++ BitVec.ofBool s.busy

/-- `cmd_ready`, which is 0 in a cycle with `rst = 1` (R30, 70_reset_and_hazards.md R200). -/
def State.cmdReady (s : State) (rst : Bool) : Bool := !rst && s.phase == .idle

/-- `cmd_accept(k)` (R71): the step out of this cycle is the dispatch of `cmd`. -/
def State.accepts (s : State) (inp : Input) : Bool := inp.cmdValid && s.cmdReady inp.rst

/-- The flags INIT writes (41_init_lines.md R111). -/
def State.setInitFlags (s : State) : State := { s with initDone := true, errIll := false, errNoInit := false }

end Sys2Proof.Machine
end

