-- ==== Sys2Proof/Syntax.lean ====
section
/-! DEFINITION. The six commands of 30_encoding.md R72 (spec/opcode_table.json), and the lines of the assembler
(R80, R81). -/

namespace Sys2Proof

/-- A legal command with its operands (R72, R73). The operands have the widths of their fields, so every term is a
command of the block. -/
inductive Instr where
  /-- `INIT` (41_init_lines.md R110). -/
  | init
  /-- `SETA a1, a0` (41_init_lines.md R120): the new levels of A1 and A0. -/
  | seta (a1 a0 : Bool)
  /-- `SETD data` (41_init_lines.md R121). -/
  | setd (data : Byte)
  /-- `XFER` (42_transfer.md R130). -/
  | xfer
  /-- `ST0 lsb, msb` (43_set_timer0.md R151). -/
  | st0 (lsb msb : Byte)
  /-- `DELAY` (40_delay.md R94). -/
  | delay
deriving DecidableEq, Repr

/-- One line of assembler, with its operands as written, in range or not (R80, and the pseudo-instructions of
R81). -/
inductive AsmLine where
  | init
  | seta (addr : Nat)
  | setd (byte : Nat)
  | xfer
  | st0 (lsb msb : Nat)
  | delay
  /-- `.word <w>`: any 20-bit word, for writing illegal words. -/
  | word (w : Nat)
  | wrbyte (addr byte : Nat)
  | wrctrl (byte : Nat)
  | wrt0 (byte : Nat)
  | settimer0 (value : Nat)
  | st0Slow (lsb msb : Nat)
  | wait (n : Nat)
deriving DecidableEq, Repr

end Sys2Proof
end

