-- ==== Sys2Proof/WellFormed.lean ====
section
/-! DEFINITION. What is well formed: a command word (30_encoding.md R74) and a line of assembler (R80). A term of
`Instr` is well formed by its type, and `Params.wellFormed` (Config.lean) is the check of a configuration. -/

namespace Sys2Proof

/-- `legal(op, arg)` of R74, clause by clause. -/
def legal (op : BitVec 4) (arg : Half) : Bool :=
  (op == 0x1 && arg == 0x0000) ||
  (op == 0x2 && arg.extractLsb' 2 14 == 0) ||
  (op == 0x3 && arg.extractLsb' 8 8 == 0) ||
  (op == 0x4 && arg == 0x0000) ||
  (op == 0x5) ||
  (op == 0x6 && arg == 0x0000)

/-- The operand ranges of R80 and R81; an operand out of range is an assembly error. -/
def AsmLine.wellFormed : AsmLine → Bool
  | .init => true
  | .seta addr => decide (addr < 4)
  | .setd byte => decide (byte < 256)
  | .xfer => true
  | .st0 lsb msb => decide (lsb < 256) && decide (msb < 256)
  | .delay => true
  | .word w => decide (w < 2 ^ 20)
  | .wrbyte addr byte => decide (addr < 4) && decide (byte < 256)
  | .wrctrl byte => decide (byte < 256)
  | .wrt0 byte => decide (byte < 256)
  | .settimer0 value => decide (value < 65536)
  | .st0Slow lsb msb => decide (lsb < 256) && decide (msb < 256)
  | .wait _ => true

end Sys2Proof
end

