-- ==== Sys2Proof/Decode.lean ====
section
/-! DEFINITION. Decoding a command word (30_encoding.md R70, R72 to R74, R78), total and rejecting by name, and the
encoder beside it. A rejected word is not a refusal of the model: accepting it sets `ERR_ILL` (R75). -/

namespace Sys2Proof

/-- Why a word is no command (R78). -/
inductive DecodeError where
  /-- An opcode of `0x0` or `0x7` to `0xF`. -/
  | reservedOpcode (op : Nat)
  /-- A legal opcode with a nonzero bit in a field R73 does not define. -/
  | reservedBits (mnemonic : String)
  /-- A number of more than 20 bits, which the command port cannot carry (R70). -/
  | notACommandWord (w : Nat)
deriving DecidableEq, Repr

/-- `op = cmd[19:16]` (R70). -/
def opField (w : CommandWord) : BitVec 4 := w.extractLsb' 16 4

/-- `arg = cmd[15:0]` (R70). -/
def argField (w : CommandWord) : Half := w.extractLsb' 0 16

/-- `{A1, A0}`, with A1 as bit 1 (00_scope.md R8, R9). -/
def addressOf (a1 a0 : Bool) : BusAddr := BitVec.ofBool a1 ++ BitVec.ofBool a0

/-- A command if its undefined operand bits are zero, else a rejection by name (R74, R78). -/
def requireZero (reserved : Bool) (mnemonic : String) (i : Instr) : Except DecodeError Instr :=
  if reserved then .ok i else .error (.reservedBits mnemonic)

/-- The command a word spells: opcode by R72, operand fields by R73, reserved words rejected by R78. -/
def decode (w : CommandWord) : Except DecodeError Instr :=
  let arg := argField w
  match (opField w).toNat with
  | 0x1 => requireZero (arg == 0) "INIT" .init
  | 0x2 => requireZero (arg.extractLsb' 2 14 == 0) "SETA" (.seta (arg.getLsbD 1) (arg.getLsbD 0))
  | 0x3 => requireZero (arg.extractLsb' 8 8 == 0) "SETD" (.setd (arg.extractLsb' 0 8))
  | 0x4 => requireZero (arg == 0) "XFER" .xfer
  | 0x5 => .ok (.st0 (arg.extractLsb' 0 8) (arg.extractLsb' 8 8))
  | 0x6 => requireZero (arg == 0) "DELAY" .delay
  | op => .error (.reservedOpcode op)

/-- Decoding of any number: one that is no 20-bit word is rejected (R70). -/
def decodeNat (w : Nat) : Except DecodeError Instr :=
  if w < 2 ^ 20 then decode (BitVec.ofNat 20 w) else .error (.notACommandWord w)

/-- The word of a command (R73, R80). -/
def encode : Instr → CommandWord
  | .init => 0x10000
  | .seta a1 a0 => 0x20000 ||| (addressOf a1 a0).setWidth 20
  | .setd data => 0x30000 ||| data.setWidth 20
  | .xfer => 0x40000
  | .st0 lsb msb => 0x50000 ||| msb.setWidth 20 <<< 8 ||| lsb.setWidth 20
  | .delay => 0x60000

/-- The opcode of a command (R72). -/
def opcodeOf : Instr → BitVec 4
  | .init => 0x1
  | .seta _ _ => 0x2
  | .setd _ => 0x3
  | .xfer => 0x4
  | .st0 _ _ => 0x5
  | .delay => 0x6

/-- The mnemonic of a command (R72, opcode_table.json). -/
def mnemonicOf : Instr → String
  | .init => "INIT"
  | .seta _ _ => "SETA"
  | .setd _ => "SETD"
  | .xfer => "XFER"
  | .st0 _ _ => "ST0"
  | .delay => "DELAY"

/-- A row of opcode_table.json: the words `w` with `w & mask = pattern` are the row's. -/
structure OpcodeRow where
  mnemonic : String
  mask : CommandWord
  pattern : CommandWord
deriving DecidableEq, Repr

/-- opcode_table.json, "the `mask`/`match` pairs" R74 speaks of. -/
def opcodeTable : List OpcodeRow :=
  [ ⟨"INIT", 0xFFFFF, 0x10000⟩,
    ⟨"SETA", 0xFFFFC, 0x20000⟩,
    ⟨"SETD", 0xFFF00, 0x30000⟩,
    ⟨"XFER", 0xFFFFF, 0x40000⟩,
    ⟨"ST0", 0xF0000, 0x50000⟩,
    ⟨"DELAY", 0xFFFFF, 0x60000⟩ ]

/-- A word belongs to a row. -/
def OpcodeRow.covers (r : OpcodeRow) (w : CommandWord) : Bool := w &&& r.mask == r.pattern

/-- The host's question: the command the decoder reads from the low `nbits` bits of `w`, every higher bit being 0.
A command arrives whole as one word (R70), so there is no byte order to apply; bits above the 20 of the command port
make it no command word. -/
def decodeTableWord (nbits w : Nat) : Option Instr :=
  match decodeNat (w % 2 ^ nbits) with
  | .ok i => some i
  | .error _ => none

end Sys2Proof
end

