-- ==== Sys2Proof/Machine/Operands.lean ====
section
/-! DEFINITION. The values a command computes from its operands and from the latches: the divisor and its bytes
(30_encoding.md R73, 20_memory.md R54), the control word (43_set_timer0.md R150) and the bus address
(00_scope.md R8). -/

namespace Sys2Proof.Machine

/-- `CW = 0x36`, the fixed control word of ST0 (43_set_timer0.md R150). -/
def controlWord : Byte := 0x36

/-- The divisor `{msb, lsb}`, that is `msb*256 + lsb` (20_memory.md R54). -/
def divisorOf (msb lsb : Byte) : Half := msb ++ lsb

/-- `DIV[7:0]`, the LSB (10_state.md R26). -/
def divisorLsb (v : Half) : Byte := v.extractLsb' 0 8

/-- `DIV[15:8]`, the MSB (10_state.md R26). -/
def divisorMsb (v : Half) : Byte := v.extractLsb' 8 8

/-- The bus write of the current address and data latches (20_memory.md R52). -/
def State.busWrite (s : State) : BusWrite := { addr := addressOf s.a1 s.a0, data := s.d }

/-- The byte XF_D's exit places on the bus: byte 1 is the LSB, byte 2 the MSB (42_transfer.md R135). -/
def State.nextDivisorByte (s : State) : Byte :=
  if s.byteIdx = 0 then divisorLsb s.div else divisorMsb s.div

end Sys2Proof.Machine
end

