-- ==== Sys2Proof/Machine/Ops.lean ====
section
/-! DEFINITION. The named operations the meanings and the phase steps are made of: writes of the latches and of the
sequencer, the timed phases (40_delay.md R91), the one error operation (60_exceptions.md R170), the emission of a bus
write (20_memory.md R52), reset (70_reset_and_hazards.md R200), the clock edge, and the inputs of a cycle. -/

namespace Sys2Proof.Machine

/-- The encoding of `PHASE` (10_state.md R24). -/
def Phase.bits : Phase → BitVec 3
  | .idle => 0
  | .xfS => 1
  | .xfA => 2
  | .xfB => 3
  | .xfC => 4
  | .xfD => 5
  | .dl => 6
  | .unused7 => 7

/-- The encoding of `SEQ` (10_state.md R26). -/
def Seq.bits : Seq → BitVec 2
  | .none => 0
  | .xfer => 1
  | .st0 => 2
  | .unused3 => 3

/-- The phases of a bus cycle (00_scope.md R14). -/
def Phase.inBusCycle : Phase → Bool
  | .xfA => true
  | .xfB => true
  | .xfC => true
  | .xfD => true
  | .idle => false
  | .xfS => false
  | .dl => false
  | .unused7 => false

/-- `L(phase)` in cycles (40_delay.md R92). IDLE and the unreachable encoding have no length there; they get 1, and
no rule enters them by `State.enter` (log 22). -/
def phaseLength (c : Config) : Phase → Nat
  | .xfS => 1
  | .xfA => c.nDly
  | .xfB => 2 * c.nDly
  | .xfC => c.nDly
  | .xfD => c.nDly
  | .dl => c.nDly
  | .idle => 1
  | .unused7 => 1

/-! ### Writes of the latches (10_state.md R22, R23, R27) -/

/-- `OE <- 1`. -/
def State.enableOutputs (s : State) : State := { s with oe := true }

/-- `CS_N <- level`. -/
def State.setCs (s : State) (level : Bool) : State := { s with csN := level }

/-- `WR_N <- level`. -/
def State.setWr (s : State) (level : Bool) : State := { s with wrN := level }

/-- `A1 <- a1; A0 <- a0`. -/
def State.setAddr (s : State) (a1 a0 : Bool) : State := { s with a1 := a1, a0 := a0 }

/-- `D <- data`. -/
def State.setData (s : State) (data : Byte) : State := { s with d := data }

/-! ### Writes of the sequencer (10_state.md R24 to R26) -/

/-- `SEQ <- q; BYTE_IDX <- i`. -/
def State.own (s : State) (q : Seq) (i : BitVec 2) : State := { s with seq := q, byteIdx := i }

/-- `BYTE_IDX <- i`. -/
def State.setByteIdx (s : State) (i : BitVec 2) : State := { s with byteIdx := i }

/-- `DIV <- v`. -/
def State.latchDivisor (s : State) (v : Half) : State := { s with div := v }

/-- `enter(P)` of R91: `PHASE <- P; DLY_CNT <- L(P) - 1`. -/
def State.enter (s : State) (p : Phase) : State := { s with phase := p, dlyCnt := phaseLength s.cfg p - 1 }

/-- `PHASE <- IDLE`, leaving `DLY_CNT` as it is (R95, 42_transfer.md R135). -/
def State.toIdle (s : State) : State := { s with phase := .idle }

/-- `DLY_CNT <- s.DLY_CNT - 1` (R91). -/
def State.countDown (s : State) : State := { s with dlyCnt := s.dlyCnt - 1 }

/-- `timed(exit_action)` of R91: one cycle of a timed phase, `exit` being the state after the exit action. -/
def State.timed (s exit : State) : State := if s.dlyCnt ≠ 0 then s.countDown else exit

/-! ### Events and errors -/

/-- `emit BusWrite(addr, data)`: one more entry at the end of the event log (R11, R52). -/
def State.emitWrite (s : State) (w : BusWrite) : State := { s with events := s.events ++ [w] }

/-- `raise ERR_ILL` and `raise ERR_NOINIT`: the block's whole error mechanism. It sets one sticky flag and changes
nothing else; there is no trap entry and no return (60_exceptions.md R170, R172). -/
def State.raise (s : State) : ErrorCause → State
  | .illegal => { s with errIll := true }
  | .notInitialised => { s with errNoInit := true }

/-- The initialisation check of the dispatch (30_encoding.md R76, R77): a command other than INIT has its effect if
`INIT_DONE = 1`, and else only raises `ERR_NOINIT`. -/
def whenInitialised (s effect : State) : Host.Outcome State Fault Refusal :=
  if s.initDone then .next effect else .next (s.raise .notInitialised)

/-- One of the encodings R36 calls unreachable: `PHASE = 7`, `SEQ = 3` or `BYTE_IDX = 3`. -/
def State.unreachable (s : State) : Bool := s.phase == .unused7 || s.seq == .unused3 || s.byteIdx == 3

/-! ### Reset and the clock edge -/

/-- The effect of a cycle with `rst = 1` (70_reset_and_hazards.md R200): every field of R21 at its reset value. The
configuration, the event log and the outside world are not fields of R21 and stay (log 5). -/
def State.resetBlock (s : State) : State :=
  { State.resetOf s.cfg with events := s.events, inputs := s.inputs, cycle := s.cycle, pit := s.pit }

/-- The inputs of the current cycle; past the end of the list nothing is presented (log 3). -/
def State.currentInput (s : State) : Input := s.inputs.headD Input.quiet

/-- The move to the next cycle: this cycle's inputs are gone and the cycle number advances (R10). `pit` is the 8254
in the next cycle. -/
def State.nextCycle (s : State) (pit : Pit) : State :=
  { s with inputs := s.inputs.tail, cycle := s.cycle + 1, pit := pit }

/-- The sequencer waiting for a command, as IDLE has it (10_state.md R34 (a)). -/
def State.idleSequencer (s : State) : State := { s with phase := .idle, seq := .none, byteIdx := 0 }

/-- The host presents a word in the current cycle, in place of what it would have presented. -/
def State.presentWord (s : State) (w : CommandWord) : State :=
  { s with inputs := { rst := false, cmdValid := true, cmd := w, foreignDrive := false } :: s.inputs.tail }

end Sys2Proof.Machine
end

