-- ==== Sys2Proof/Machine/Delay.lean ====
section
/-! DEFINITION. The DELAY command and its phase (40_delay.md R94, R95). -/

namespace Sys2Proof.Machine

/-- `DELAY_accept` (R94), behind the initialisation check (30_encoding.md R76). -/
def execDelay (s : State) : Host.Outcome State Fault Refusal := whenInitialised s (s.enter .dl)

/-- `DL_step` (R95). -/
def dlStep (s : State) : State := s.timed s.toIdle

end Sys2Proof.Machine
end

