-- ==== Sys2Proof/Machine/InitLines.lean ====
section
/-! DEFINITION. INIT, SETA and SETD (41_init_lines.md R110 to R122). -/

namespace Sys2Proof.Machine

/-- `INIT_accept` (R111): the only command with an effect while `INIT_DONE = 0` (R112 (b)). -/
def execInit (s : State) : Host.Outcome State Fault Refusal :=
  .next (((((s.enableOutputs.setCs true).setWr true).setAddr true true).setData 0x00).setInitFlags)

/-- `SETA_accept(a1, a0)` (R120). -/
def execSeta (a1 a0 : Bool) (s : State) : Host.Outcome State Fault Refusal := whenInitialised s (s.setAddr a1 a0)

/-- `SETD_accept(data)` (R121). -/
def execSetd (data : Byte) (s : State) : Host.Outcome State Fault Refusal := whenInitialised s (s.setData data)

end Sys2Proof.Machine
end

