-- ==== Sys2Proof/Machine/SetTimer0.lean ====
section
/-! DEFINITION. ST0, the load of the Timer 0 divisor (43_set_timer0.md R151). -/

namespace Sys2Proof.Machine

/-- `ST0_accept(lsb, msb)` (R151), behind the initialisation check (30_encoding.md R76). The three bus cycles that
follow are the phases of Transfer.lean. -/
def execSt0 (lsb msb : Byte) (s : State) : Host.Outcome State Fault Refusal :=
  whenInitialised s
    (((((((s.setCs true).setWr true).setAddr true true).setData controlWord).latchDivisor
      (divisorOf msb lsb)).own .st0 0).enter .xfS)

end Sys2Proof.Machine
end

