-- ==== Sys2Proof/Machine/Transfer.lean ====
section
/-! DEFINITION. XFER and the phases of a bus cycle (42_transfer.md R130 to R135), which ST0 uses too. -/

namespace Sys2Proof.Machine

/-- `XFER_accept` (R130), behind the initialisation check (30_encoding.md R76). -/
def execXfer (s : State) : Host.Outcome State Fault Refusal :=
  whenInitialised s (((s.setCs false).own .xfer 0).enter .xfA)

/-- `XF_S_step` (R131). -/
def xfSStep (s : State) : State := s.timed ((s.setCs false).enter .xfA)

/-- `XF_A_step` (R132). -/
def xfAStep (s : State) : State := s.timed ((s.setWr false).enter .xfB)

/-- `XF_B_step` (R133): WR# rises and the bus write is emitted. -/
def xfBStep (s : State) : State := s.timed (((s.setWr true).emitWrite s.busWrite).enter .xfC)

/-- `XF_C_step` (R134). -/
def xfCStep (s : State) : State := s.timed ((s.setCs true).enter .xfD)

/-- ST0's byte advance at XF_D's exit (R135): the Timer 0 address, and the next byte of the divisor. -/
def State.advanceByte (s : State) : State :=
  (((s.setByteIdx (s.byteIdx + 1)).setAddr false false).setData s.nextDivisorByte).enter .xfS

/-- `XF_D_step` (R135): the next byte of an ST0, or the end of the command. -/
def xfDStep (s : State) : State :=
  s.timed (if s.seq = .st0 ∧ s.byteIdx < 2 then s.advanceByte else (s.own .none 0).toIdle)

/-- The events of the step out of a cycle (20_memory.md R52): one bus write at XF_B's exit, unless the block is being
reset (60_exceptions.md R173), and none in any other step. -/
def State.emitted (s : State) (inp : Input) : Option BusWrite :=
  if inp.rst = false ∧ s.phase = .xfB ∧ s.dlyCnt = 0 then some s.busWrite else none

end Sys2Proof.Machine
end

