-- ==== Sys2Proof/Machine/Dispatch.lean ====
section
/-! DEFINITION. The dispatch of a legal command (30_encoding.md R77), one arm per command. -/

namespace Sys2Proof.Machine

def exec (i : Instr) (s : State) : Host.Outcome State Fault Refusal :=
  match i with
  | .init => Sys2Proof.Machine.execInit s
  | .seta a1 a0 => Sys2Proof.Machine.execSeta a1 a0 s
  | .setd data => Sys2Proof.Machine.execSetd data s
  | .xfer => Sys2Proof.Machine.execXfer s
  | .st0 lsb msb => Sys2Proof.Machine.execSt0 lsb msb s
  | .delay => Sys2Proof.Machine.execDelay s

end Sys2Proof.Machine
end

