-- ==== Sys2Proof/Machine/Pit.lean ====
section
/-! DEFINITION. What the spec says of the external 8254 (60_exceptions.md R185 to R187): the calibration premise, how
the bus writes and a disturbed bus change what is known of it, and the frequency of Timer 0. -/

namespace Sys2Proof

/-- The calibration constraint of R7, line by line, with `T = 1 / F_CLK`. It is a premise about the board, not
something the block can check (R206, R216). -/
def Config.calibrated (c : Config) : Bool :=
  let n : ℚ := c.params.nDly
  let t : ℚ := 1 / c.params.fClk
  decide (c.params.tWrPulse ≤ (2 * n) * t) &&
  decide (c.params.tCsToWr ≤ n * t) &&
  decide (c.params.tAddrToWr ≤ (n + 1) * t) &&
  decide (c.params.tDataToWrh ≤ (3 * n + 1) * t) &&
  decide (c.params.tWrhToCsh ≤ n * t) &&
  decide (c.params.tDataHold ≤ (2 * n) * t) &&
  decide (c.params.tWrRecovery ≤ (3 * n + 1) * t) &&
  decide (c.params.tCsRecovery ≤ (n + 1) * t)

end Sys2Proof

namespace Sys2Proof.Machine

/-- The address of the 8254's control register (20_memory.md R51). -/
def controlAddr : BusAddr := 0b11

/-- The address of the 8254's Timer 0 data register (20_memory.md R51). -/
def timer0Addr : BusAddr := 0b00

/-- The 8254 in cycle `k + 1` after a bus write emitted out of cycle `k` (R185 to R187). Control word, LSB and MSB
with no other event between program Timer 0 with `{msb, lsb}`, which tells nothing of the rest of the chip (91 N7);
every other write leaves the whole chip unknown. `sound` is false for a write that is no part of a triple whatever it
carries: an uncalibrated one (R187), or one whose strobe was disturbed (log 27). -/
def Pit.receive (sound : Bool) (k : Nat) (p : Pit) (w : BusWrite) : Pit :=
  if !sound then Pit.unknown (k + 1)
  else if w.addr = controlAddr ∧ w.data = controlWord then { Pit.unknown (k + 1) with progress := .control }
  else if w.addr = timer0Addr then
    match p.progress with
    | .start => Pit.unknown (k + 1)
    | .control => { Pit.unknown (k + 1) with progress := .lsb w.data }
    | .lsb b => { p with timer0 := .squareWave (divisorOf w.data b) k, progress := .start }
  else Pit.unknown (k + 1)

/-- The pins are not the block's alone in the step from `s` to `t`: not driven before it or after it
(70_reset_and_hazards.md R203, R207; 93 U5, U6), or another agent drives the bus bits (R212, 93 U7). -/
def busDisturbed (s t : State) : Bool := !s.oe || !t.oe || s.currentInput.foreignDrive

/-- What the step from `s` to `t` makes of the record of a disturbed command: while the block stays busy a disturbance
is remembered, from the cycle of the command's acceptance on, and with the command the record ends (log 27). -/
def State.disturbanceAfter (s t : State) : Bool :=
  decide (t.phase ≠ .idle) && (busDisturbed s t || (decide (s.phase ≠ .idle) && s.pit.strobeDisturbed))

/-- What the step from `s` to `t` makes of the chip: unknown if the bus was disturbed in this step, else changed by the
bus write of this step, if there is one (R185 to R187). -/
def State.chipAfter (s t : State) : Pit :=
  if busDisturbed s t then Pit.unknown (s.cycle + 1)
  else
    match s.emitted s.currentInput with
    | some w => s.pit.receive (!s.pit.strobeDisturbed && s.cfg.calibrated) s.cycle w
    | none => s.pit

/-- The 8254 after the step from `s` to `t` (`t` being the block's own next state), as R185 to R187 give it. R212 and
93 U7 leave open for how long a disturbance tells: the model's choice (DESIGN CHOICE, log 27) is that it leaves the chip
unknown at once, and that a write whose strobe another agent disturbed in any earlier cycle of its command, a control
word too, is no part of a triple; a disturbance before the command was accepted does not tell against it. -/
def State.nextPit (s t : State) : Pit := { s.chipAfter t with strobeDisturbed := s.disturbanceAfter t }

/-- The count a divisor stands for: 0 is "the maximum count" (R186), 65536 by general knowledge (93 G4, log 12). -/
def divisorCount (v : Half) : Nat := if v = 0 then 65536 else v.toNat

/-- The frequency of Timer 0's square wave for a divisor, `F_PIT_CLK / value` (R186); any value for the small
divisors of 93 U2. -/
def divisorFrequency (c : Config) (k : Nat) (v : Half) : ℚ :=
  if v ≠ 0 ∧ v.toNat < c.params.smallDivisor then Config.freeFrequency k
  else c.params.fPitClk / (divisorCount v : ℚ)

/-- The frequency of Timer 0's output in the current cycle: the programmed one from an unstated moment after the last
write of the triple on (93 U14, 91 N6), and any value otherwise. -/
def State.timer0Frequency (s : State) : ℚ :=
  match s.pit.timer0 with
  | .squareWave v since =>
    if since + Config.onsetDelay since < s.cycle then divisorFrequency s.cfg s.cycle v
    else Config.freeFrequency s.cycle
  | .unspecified _ => Config.freeFrequency s.cycle

end Sys2Proof.Machine
end

