-- ==== Sys2Proof/Machine/Cycle.lean ====
section
/-! DEFINITION. The step function of 40_delay.md R90, and one clock cycle of the whole machine: the inputs of the cycle,
the block's step, the clock edge and the 8254's side of it. -/

namespace Sys2Proof.Machine

/-- `dispatch(cmd)` (30_encoding.md R77): an illegal word sets `ERR_ILL` only (R75), a legal one runs. -/
def acceptWord (w : CommandWord) (s : State) : Host.Outcome State Fault Refusal :=
  match decode w with
  | .ok i => exec i s
  | .error _ => .next (s.raise .illegal)

/-- The step in IDLE (R71, R90): the presented word is accepted; with none presented nothing changes. -/
def idleStep (inp : Input) (s : State) : Host.Outcome State Fault Refusal :=
  if inp.cmdValid then acceptWord inp.cmd s else .next s

/-- `case s.PHASE of` in R90. -/
def phaseStep (inp : Input) (s : State) : Host.Outcome State Fault Refusal :=
  match s.phase with
  | .idle => idleStep inp s
  | .xfS => .next (xfSStep s)
  | .xfA => .next (xfAStep s)
  | .xfB => .next (xfBStep s)
  | .xfC => .next (xfCStep s)
  | .xfD => .next (xfDStep s)
  | .dl => .next (dlStep s)
  | .unused7 => .fault .unreachableState

/-- `step(s, rst, cmd_valid, cmd)` of R90: reset first (60_exceptions.md R173), then the fault of the unreachable
encodings (10_state.md R36), then the phase. -/
def blockStep (inp : Input) (s : State) : Host.Outcome State Fault Refusal :=
  if inp.rst then .next s.resetBlock
  else if s.unreachable then .fault .unreachableState
  else phaseStep inp s

/-- One cycle of `clk`: R90 with the inputs of the cycle, and then the next cycle's number and inputs and the 8254 as
the step leaves it. -/
def cycleStep (s : State) : Host.Outcome State Fault Refusal :=
  match blockStep s.currentInput s with
  | .next t => .next (t.nextCycle (s.nextPit t))
  | .fault f => .fault f
  | .refused r => .refused r

/-- Launching a block with given parameters (00_scope.md R6, 70_reset_and_hazards.md R201, R206): its reset state, or a
refusal of parameters that are "not a configuration of this block" (40_delay.md R97, 93 U13). -/
def launch (p : Params) : Host.Outcome State Fault Refusal :=
  if h : p.wellFormed = true then .next (State.resetOf ⟨p, h⟩) else .refused .badConfiguration

end Sys2Proof.Machine
end

