-- ==== Sys2Proof/Machine/Step.lean ====
section
/-! DEFINITION. One step of the machine: one cycle of `clk` (40_delay.md R90). -/

namespace Sys2Proof.Machine

/-- One step: one clock cycle with the inputs the state holds for it. -/
def step (s : State) : Host.Outcome State Fault Refusal := cycleStep s

/-- The state in which the very next step accepts the command whose low `nbits` bits are those of `w`: the sequencer is
in IDLE and the host presents the word in the current cycle (log 4). `INIT_DONE` is left as it is. -/
def State.withFetchWord (s : State) (nbits w : Nat) : State :=
  s.idleSequencer.presentWord (BitVec.ofNat 20 (w % 2 ^ nbits))

end Sys2Proof.Machine
end

