-- ==== Sys2Proof/Machine/Assembler.lean ====
section
/-! DEFINITION. The assembler (30_encoding.md R80, R81): from a line of text to its command words, pseudo-instructions
expanded. It is the notation of the spec's programs; nothing in the block depends on it. -/

namespace Sys2Proof.Machine

/-- Why a line assembles to no word. -/
inductive AsmError where
  /-- The text is no line of R80 or R81. -/
  | syntaxError
  /-- "An operand out of range is an assembly error" (R80). -/
  | operandOutOfRange
deriving DecidableEq, Repr

/-! ### Words (R80) and expansions (R81) -/

/-- `seta <addr>`: `0x20000 | addr`. -/
def setaWord (addr : Nat) : CommandWord := 0x20000 ||| BitVec.ofNat 20 addr

/-- `setd <byte>`: `0x30000 | byte`. -/
def setdWord (byte : Nat) : CommandWord := 0x30000 ||| BitVec.ofNat 20 byte

/-- `st0 <lsb>, <msb>`: `0x50000 | (msb << 8) | lsb`. -/
def st0Word (lsb msb : Nat) : CommandWord := 0x50000 ||| BitVec.ofNat 20 msb <<< 8 ||| BitVec.ofNat 20 lsb

/-- `init`. -/
def initWord : CommandWord := 0x10000

/-- `xfer`. -/
def xferWord : CommandWord := 0x40000

/-- `delay`. -/
def delayWord : CommandWord := 0x60000

/-- `wrbyte <addr>, <byte>`: `seta <addr>` ; `setd <byte>` ; `xfer`. -/
def wrbyteWords (addr byte : Nat) : List CommandWord := [setaWord addr, setdWord byte, xferWord]

/-- `wrctrl <byte>`: `wrbyte ctrl, <byte>`. -/
def wrctrlWords (byte : Nat) : List CommandWord := wrbyteWords 3 byte

/-- `wrt0 <byte>`: `wrbyte t0, <byte>`. -/
def wrt0Words (byte : Nat) : List CommandWord := wrbyteWords 0 byte

/-- The words of a line whose operands are in range. -/
def AsmLine.words : AsmLine → List CommandWord
  | .init => [initWord]
  | .seta addr => [setaWord addr]
  | .setd byte => [setdWord byte]
  | .xfer => [xferWord]
  | .st0 lsb msb => [st0Word lsb msb]
  | .delay => [delayWord]
  | .word w => [BitVec.ofNat 20 w]
  | .wrbyte addr byte => wrbyteWords addr byte
  | .wrctrl byte => wrctrlWords byte
  | .wrt0 byte => wrt0Words byte
  | .settimer0 value => [st0Word (value &&& 0xFF) (value >>> 8)]
  | .st0Slow lsb msb => wrctrlWords 0x36 ++ wrt0Words lsb ++ wrt0Words msb
  | .wait n => List.replicate n delayWord

/-- Assembling a line: its words, or an error with no word (R80). -/
def assemble (l : AsmLine) : Except AsmError (List CommandWord) :=
  if l.wellFormed then .ok (AsmLine.words l) else .error .operandOutOfRange

/-! ### Text (R80). Blanks are spaces and tabs; hexadecimal digits may be of either case (log 20). -/

/-- A blank between the parts of a line. -/
def isBlank (c : Char) : Bool := c == ' ' || c == '\t' || c == '\r'

/-- The text without blanks at its two ends. -/
def trimBlanks (cs : List Char) : List Char := ((cs.dropWhile isBlank).reverse.dropWhile isBlank).reverse

/-- The pieces of a text between the separators. -/
def splitAtChar (sep : Char) : List Char → List (List Char)
  | [] => [[]]
  | c :: cs =>
    if c = sep then [] :: splitAtChar sep cs
    else
      match splitAtChar sep cs with
      | [] => [[c]]
      | piece :: rest => (c :: piece) :: rest

/-- The value of a digit below the base. -/
def digitValue (base : Nat) (c : Char) : Option Nat :=
  let v :=
    if '0' ≤ c ∧ c ≤ '9' then c.toNat - '0'.toNat
    else if 'a' ≤ c ∧ c ≤ 'f' then c.toNat - 'a'.toNat + 10
    else if 'A' ≤ c ∧ c ≤ 'F' then c.toNat - 'A'.toNat + 10
    else base
  if v < base then some v else none

/-- The number written by digits, after those already read. -/
def parseDigits (base : Nat) : Nat → List Char → Option Nat
  | acc, [] => some acc
  | acc, c :: cs =>
    match digitValue base c with
    | some v => parseDigits base (acc * base + v) cs
    | none => none

/-- A number with at least one digit. -/
def parseNonempty (base : Nat) (cs : List Char) : Option Nat :=
  match cs with
  | [] => none
  | _ :: _ => parseDigits base 0 cs

/-- A number "in decimal, in hex (`0x`) or in binary (`0b`)" (R80). -/
def parseNumber (cs : List Char) : Option Nat :=
  match cs with
  | '0' :: 'x' :: rest => parseNonempty 16 rest
  | '0' :: 'b' :: rest => parseNonempty 2 rest
  | _ => parseNonempty 10 cs

/-- An address: a number, or one of "the aliases [...] `ctrl` = 3 and `t0` = 0" (R80). -/
def parseAddr (cs : List Char) : Option Nat :=
  if cs = "ctrl".toList then some 3 else if cs = "t0".toList then some 0 else parseNumber cs

/-- A line with no operand. -/
def noOperand (ops : List (List Char)) (l : AsmLine) : Option AsmLine :=
  match ops with
  | [] => some l
  | _ :: _ => none

/-- A line with one operand. -/
def oneOperand (parse : List Char → Option Nat) (ops : List (List Char)) (line : Nat → AsmLine) : Option AsmLine :=
  match ops with
  | [x] => (parse x).map line
  | _ => none

/-- A line with two operands. -/
def twoOperands (parse : List Char → Option Nat) (ops : List (List Char)) (line : Nat → Nat → AsmLine) :
    Option AsmLine :=
  match ops with
  | [x, y] =>
    match parse x, parseNumber y with
    | some a, some b => some (line a b)
    | _, _ => none
  | _ => none

/-- The line of a mnemonic, in lower case, and its operands (R80, R81). -/
def lineOf (m : List Char) (ops : List (List Char)) : Option AsmLine :=
  if m = "init".toList then noOperand ops .init
  else if m = "seta".toList then oneOperand parseAddr ops .seta
  else if m = "setd".toList then oneOperand parseNumber ops .setd
  else if m = "xfer".toList then noOperand ops .xfer
  else if m = "st0".toList then twoOperands parseNumber ops .st0
  else if m = "delay".toList then noOperand ops .delay
  else if m = ".word".toList then oneOperand parseNumber ops .word
  else if m = "wrbyte".toList then twoOperands parseAddr ops .wrbyte
  else if m = "wrctrl".toList then oneOperand parseNumber ops .wrctrl
  else if m = "wrt0".toList then oneOperand parseNumber ops .wrt0
  else if m = "settimer0".toList then oneOperand parseNumber ops .settimer0
  else if m = "st0_slow".toList then twoOperands parseNumber ops .st0Slow
  else if m = "wait".toList then oneOperand parseNumber ops .wait
  else none

/-- The operands of a line: none for a blank rest, else the trimmed pieces between commas. -/
def operandsOf (rest : List Char) : List (List Char) :=
  if trimBlanks rest = [] then [] else (splitAtChar ',' rest).map trimBlanks

/-- The words of one line of text: a `;` starts a comment, and a line with nothing else has no word (R80). -/
def assembleText (text : List Char) : Except AsmError (List CommandWord) :=
  let code := trimBlanks (text.takeWhile (· != ';'))
  if code = [] then .ok []
  else
    match lineOf (code.takeWhile (!isBlank ·)) (operandsOf (code.dropWhile (!isBlank ·))) with
    | some l => assemble l
    | none => .error .syntaxError

end Sys2Proof.Machine
end

