-- ==== Sys2Proof/Machine/Pins.lean ====
section
/-! DEFINITION. The pins and ports the state drives (10_state.md R27, R31; 20_memory.md R54, R58) and the levels seen
on them. -/

namespace Sys2Proof.Machine

/-- The latch behind a pin (R27). -/
def State.latch (s : State) : BusPin → Bool
  | .cs => s.csN
  | .wr => s.wrN
  | .a0 => s.a0
  | .a1 => s.a1
  | .d i => s.d.getLsbD i.val

/-- What the block drives on a pin in this cycle: the latch if `OE = 1`, else nothing (R27). -/
def State.drives (s : State) (p : BusPin) : Option Bool := if s.oe then some (s.latch p) else none

/-- The four pins of the control port (R31). -/
def BusPin.onControlPort : BusPin → Bool
  | .cs => true
  | .wr => true
  | .a0 => true
  | .a1 => true
  | .d _ => false

/-- The level seen on a pin in this cycle: any value where the block does not drive it (R27, 93 U6) or where another
agent drives a control line (70_reset_and_hazards.md R212, 93 U7). -/
def State.levelSeen (s : State) (p : BusPin) : Bool :=
  if s.currentInput.foreignDrive && BusPin.onControlPort p then Config.freeLevel s.cycle p
  else (s.drives p).getD (Config.freeLevel s.cycle p)

/-- What the block drives on a bit of `P_CTRL`: its four lines at `PIN_CS`, `PIN_WR`, `PIN_A0` and `PIN_A1`, and no
other bit (R31, R58). -/
def State.drivesCtrlPort (s : State) (bit : Nat) : Option Bool :=
  if bit = s.cfg.params.pinCs then s.drives .cs
  else if bit = s.cfg.params.pinWr then s.drives .wr
  else if bit = s.cfg.params.pinA0 then s.drives .a0
  else if bit = s.cfg.params.pinA1 then s.drives .a1
  else none

/-- What the block drives on a bit of `P_DATA`: bit `i` carries `d[i]` (R31, R54). -/
def State.drivesDataPort (s : State) (bit : Fin 8) : Option Bool := s.drives (.d bit)

end Sys2Proof.Machine
end

