-- ==== Sys2Proof/Safety.lean ====
section
/-! DEFINITION. The terms claims are stated in: the invariants of a reachable state (10_state.md R34), the inputs over
a stretch of cycles, runs of several cycles, and the schedules of the commands (30_encoding.md R79, 42_transfer.md R137,
43_set_timer0.md R152). -/

namespace Sys2Proof.Machine

/-- What holds in every reachable state: R34 (a) to (e), with the lines of each phase as R24's table gives them, the
sequencer of a DELAY, `OE` and `ERR_NOINIT` beside `INIT_DONE`, and no unreachable encoding (R36). -/
structure State.Inv (s : State) : Prop where
  /-- R36. -/
  reachable : s.unreachable = false
  /-- R34 (a), the sequencer. -/
  idle : s.phase = .idle → s.dlyCnt = 0 ∧ s.seq = .none ∧ s.byteIdx = 0
  /-- A DELAY owns no bus cycle (40_delay.md R94). -/
  delaying : s.phase = .dl → s.seq = .none ∧ s.byteIdx = 0
  /-- R34 (b). -/
  owned : s.phase = .xfS ∨ s.phase.inBusCycle = true → s.seq ≠ .none
  /-- R34 (c). -/
  xferByte : s.seq = .xfer → s.byteIdx = 0
  /-- R34 (d). -/
  counter : s.dlyCnt ≤ phaseLength s.cfg s.phase - 1
  /-- R24, R34 (a): CS# is low in XF_A, XF_B and XF_C only. -/
  chipSelect : s.csN = false ↔ s.phase = .xfA ∨ s.phase = .xfB ∨ s.phase = .xfC
  /-- R24, R34 (a): WR# is low in XF_B only. -/
  writeStrobe : s.wrN = false ↔ s.phase = .xfB
  /-- R34 (e): before INIT no command has changed a latch. -/
  untouched : s.initDone = false → s.phase = .idle ∧ s.a0 = true ∧ s.a1 = true ∧ s.d = 0x00 ∧ s.div = 0x0000
  /-- R27, R29: both are set by INIT only and cleared by reset only. -/
  enabled : s.oe = s.initDone
  /-- R29, 41_init_lines.md R111: INIT clears `ERR_NOINIT` and sets `INIT_DONE`. -/
  noInitError : s.errNoInit = true → s.initDone = false

/-- While ST0 owns the bus, its byte `BYTE_IDX` is on the lines (43_set_timer0.md R151, R152): the control word at the
control register, then the LSB and the MSB of `DIV` at Timer 0. -/
def State.st0Bus (s : State) : Prop :=
  s.seq = .st0 → s.phase = .xfS ∨ s.phase.inBusCycle = true →
    (s.byteIdx = 0 → s.a1 = true ∧ s.a0 = true ∧ s.d = 0x36) ∧
    (s.byteIdx = 1 → s.a1 = false ∧ s.a0 = false ∧ s.d = s.div.extractLsb' 0 8) ∧
    (s.byteIdx = 2 → s.a1 = false ∧ s.a0 = false ∧ s.d = s.div.extractLsb' 8 8)

/-- The model's record of a triple in progress is what the event log ends in (60_exceptions.md R186). -/
def State.tripleRecorded (s : State) : Prop :=
  match s.pit.progress with
  | .start => True
  | .control => ∃ l, s.events = l ++ [⟨0b11, 0x36⟩]
  | .lsb b => ∃ l, s.events = l ++ [⟨0b11, 0x36⟩, ⟨0b00, b⟩]

/-- What the model's record of a disturbed command says (log 27): in IDLE there is none, and while there is one Timer 0
is a free value and nothing of a triple has been received. -/
def State.disturbanceRecorded (s : State) : Prop :=
  (s.phase = .idle → s.pit.strobeDisturbed = false) ∧
  (s.pit.strobeDisturbed = true → s.pit.progress = .start ∧ ∃ k, s.pit.timer0 = Config.timer0Draw k)

/-! ### Inputs and runs -/

/-- The inputs of the `k`-th cycle from now. -/
def State.inputAt (s : State) (k : Nat) : Input := s.inputs.getD k Input.quiet

/-- `rst = 0` in the next `n` cycles. -/
def State.noReset (s : State) (n : Nat) : Prop := ∀ k, k < n → (s.inputAt k).rst = false

/-- No other agent drives the bus bits in the next `n` cycles (70_reset_and_hazards.md R212). -/
def State.ownBus (s : State) (n : Nat) : Prop := ∀ k, k < n → (s.inputAt k).foreignDrive = false

/-- The word `w` is accepted in this cycle (30_encoding.md R71). -/
def State.acceptsWord (s : State) (w : CommandWord) : Prop :=
  s.accepts s.currentInput = true ∧ s.currentInput.cmd = w

/-- `n` cycles lead from `s` to `t`. -/
def reaches (n : Nat) (s t : State) : Prop := Host.Core.run Sys2Proof.core n s = .next t

/-- One cycle in which the block's fields become those of `t`: the next state is `t` with this cycle's inputs gone, the
cycle number one higher and the 8254 as this step leaves it. -/
def clocksTo (s t : State) : Prop :=
  step s = .next { t with inputs := s.inputs.tail, cycle := s.cycle + 1, pit := s.nextPit t }

/-! ### Schedules -/

/-- The phase of a bus cycle in its `r`-th cycle, `r = 1` being the first with CS# low (42_transfer.md R137). -/
def busCyclePhase (n r : Nat) : Phase :=
  if r ≤ n then .xfA else if r ≤ 3 * n then .xfB else if r ≤ 4 * n then .xfC
  else if r ≤ 5 * n then .xfD else .idle

/-- The byte ST0 has on the bus `j` cycles after it was accepted, and 3 when it is done (43_set_timer0.md R152): byte
`i` begins at `b_i = 1 + i*(5*N_DLY + 1)`. -/
def st0Byte (n j : Nat) : Nat :=
  if j < 1 + (5 * n + 1) then 0 else if j < 1 + 2 * (5 * n + 1) then 1 else if j < 1 + 3 * (5 * n + 1) then 2 else 3

/-- The cycle within that byte, 0 being its XF_S (43_set_timer0.md R152). -/
def st0Offset (n j : Nat) : Nat :=
  if j < 1 + (5 * n + 1) then j - 1 else if j < 1 + 2 * (5 * n + 1) then j - (1 + (5 * n + 1))
  else j - (1 + 2 * (5 * n + 1))

/-- The phase `j` cycles after an ST0 was accepted (43_set_timer0.md R152). -/
def st0Phase (n j : Nat) : Phase :=
  if st0Byte n j < 3 then (if st0Offset n j = 0 then .xfS else busCyclePhase n (st0Offset n j)) else .idle

/-- The data on the bus during byte `i` of an ST0, and after the last one (43_set_timer0.md R152, R155). -/
def st0Data (lsb msb : Byte) (i : Nat) : Byte := if i = 0 then 0x36 else if i = 1 then lsb else msb

/-- The three writes of an ST0 (43_set_timer0.md R153). -/
def st0Writes (lsb msb : Byte) : List BusWrite := [⟨0b11, 0x36⟩, ⟨0b00, lsb⟩, ⟨0b00, msb⟩]

/-- How many cycles after its acceptance a command with effect leaves the block ready again (30_encoding.md R79). -/
def occupancy (n : Nat) : Instr → Nat
  | .init => 1
  | .seta _ _ => 1
  | .setd _ => 1
  | .xfer => 5 * n + 1
  | .st0 _ _ => 15 * n + 4
  | .delay => n + 1

/-- The same for any accepted word: an illegal word, or a command other than INIT before INIT, takes one cycle
(30_encoding.md R79). -/
def wordOccupancy (s : State) (w : CommandWord) : Nat :=
  match decode w with
  | .ok i => if i = .init ∨ s.initDone = true then occupancy s.cfg.nDly i else 1
  | .error _ => 1

end Sys2Proof.Machine
end

