-- ==== Sys2Proof/Certificates/Slice0/Obligations.lean ====
section
/-! DEFINITION. The statements for the provers. Each docstring names the rule of spec/ it formalises; where a clause is
the model's own choice it says so and names the log entry. -/

open Sys2Proof Sys2Proof.Machine

/-! ### Reset and launch -/

/-- 70_reset_and_hazards.md R200, 10_state.md R33: a cycle with `rst = 1` leaves every field of R21 at its reset value,
whatever the state is, emits no event and accepts nothing; the pins are then undriven and `STATUS` is 0. That the
configuration and the event log stay is no rule of the spec but the model's choice (DESIGN CHOICE, log 5). -/
def Obligations.RstLeavesTheResetState : Prop :=
  ∀ s : State, s.currentInput.rst = true → s.cmdReady s.currentInput.rst = false ∧ ∃ t, step s = .next t ∧
    t.oe = false ∧ t.csN = true ∧ t.wrN = true ∧ t.a0 = true ∧ t.a1 = true ∧ t.d = 0x00 ∧ t.phase = .idle ∧
    t.dlyCnt = 0 ∧ t.seq = .none ∧ t.byteIdx = 0 ∧ t.div = 0x0000 ∧ t.initDone = false ∧ t.errIll = false ∧
    t.errNoInit = false ∧ t.events = s.events ∧ t.cfg = s.cfg ∧ (∀ p, t.drives p = none) ∧ t.status = 0b0000 ∧
    t.cmdReady false = true

/-- 70_reset_and_hazards.md R201, 10_state.md R21: the launch state is the reset state. That the event log, which is no
entry of R21, starts empty is the model's choice (DESIGN CHOICE, unsafe, log 5). -/
def Obligations.LaunchStateIsTheResetColumn : Prop :=
  State.reset.oe = false ∧ State.reset.csN = true ∧ State.reset.wrN = true ∧ State.reset.a0 = true ∧
  State.reset.a1 = true ∧ State.reset.d = 0x00 ∧ State.reset.phase = .idle ∧ State.reset.dlyCnt = 0 ∧
  State.reset.seq = .none ∧ State.reset.byteIdx = 0 ∧ State.reset.div = 0x0000 ∧ State.reset.initDone = false ∧
  State.reset.errIll = false ∧ State.reset.errNoInit = false ∧ State.reset.events = []

/-- 40_delay.md R97, 00_scope.md R6: parameters whose counter cannot hold `2*N_DLY - 1` are refused, not truncated; so
are any that break R6, and all others launch in the reset state. -/
def Obligations.LaunchRefusesATruncatingCounter : Prop :=
  ∀ p : Params,
    (2 ^ p.wDly - 1 < 2 * p.nDly - 1 → launch p = .refused .badConfiguration) ∧
    (p.wellFormed = false → launch p = .refused .badConfiguration) ∧
    (∀ h : p.wellFormed = true, launch p = .next (State.resetOf ⟨p, h⟩))

/-- 41_init_lines.md R110 (example), 70_reset_and_hazards.md R205: the first INIT after reset, in any configuration: one
cycle later the outputs are enabled, the four lines are high, the data is 0 and `STATUS` is `0b0010`. -/
def Obligations.FirstInitTakesTheLines : Prop :=
  ∀ c : Config, ∃ t, step ((State.resetOf c).withFetchWord 24 0x10000) = .next t ∧
    t.drives .cs = some true ∧ t.drives .wr = some true ∧ t.drives .a0 = some true ∧ t.drives .a1 = some true ∧
    (∀ i : Fin 8, t.drives (.d i) = some false) ∧ t.status = 0b0010 ∧ t.cmdReady false = true ∧ t.cycle = 1

/-! ### The commands, each on every state in which it has its effect -/

/-- 41_init_lines.md R111: INIT's acceptance step, in every state. Everything it does not name is unchanged. -/
def Obligations.InitDrivesIdleAndSetsInitDone : Prop :=
  ∀ s : State, exec .init s = .next { s with
    oe := true, csN := true, wrN := true, a0 := true, a1 := true, d := 0x00, initDone := true, errIll := false,
    errNoInit := false }

/-- 41_init_lines.md R120 (pseudocode and flags): SETA writes the two address latches and nothing else. -/
def Obligations.SetaWritesTheAddressLatches : Prop :=
  ∀ (s : State) (a1 a0 : Bool), s.initDone = true →
    exec (.seta a1 a0) s = .next { s with a1 := a1, a0 := a0 }

/-- 41_init_lines.md R121 (pseudocode and flags): SETD writes the data latch and nothing else. -/
def Obligations.SetdWritesTheDataLatch : Prop :=
  ∀ (s : State) (data : Byte), s.initDone = true → exec (.setd data) s = .next { s with d := data }

/-- 42_transfer.md R130 (pseudocode and flags): XFER asserts CS#, takes the bus cycle and enters XF_A. -/
def Obligations.XferAssertsChipSelect : Prop :=
  ∀ s : State, s.initDone = true →
    exec .xfer s = .next { s with
      csN := false, seq := .xfer, byteIdx := 0, phase := .xfA, dlyCnt := s.cfg.params.nDly - 1 }

/-- 43_set_timer0.md R151 (pseudocode and flags), R150: ST0 re-asserts idle, addresses the control register with the
control word 0x36 on the bus, keeps the divisor `msb*256 + lsb` and enters XF_S. -/
def Obligations.St0PlacesTheControlWord : Prop :=
  ∀ (s : State) (lsb msb : Byte), s.initDone = true →
    exec (.st0 lsb msb) s = .next { s with
      csN := true, wrN := true, a1 := true, a0 := true, d := 0x36,
      div := BitVec.ofNat 16 (msb.toNat * 256 + lsb.toNat), seq := .st0, byteIdx := 0, phase := .xfS, dlyCnt := 0 }

/-- 40_delay.md R94 (pseudocode and flags): DELAY enters phase DL for one delay unit. -/
def Obligations.DelayEntersItsPhase : Prop :=
  ∀ s : State, s.initDone = true →
    exec .delay s = .next { s with phase := .dl, dlyCnt := s.cfg.params.nDly - 1 }

/-- 30_encoding.md R76: a legal command other than INIT while `INIT_DONE = 0` sets `ERR_NOINIT` and changes nothing
else. -/
def Obligations.CommandBeforeInitOnlySetsErrNoInit : Prop :=
  ∀ (s : State) (i : Instr), i ≠ .init → s.initDone = false → exec i s = .next { s with errNoInit := true }

/-! ### Acceptance and dispatch -/

/-- 30_encoding.md R71, R77: in a cycle in which a word is accepted and decodes to a command, the step is that command's,
with the clock edge around it: the inputs move on, the cycle number goes up by one, and the 8254 is as this step leaves
it. -/
def Obligations.StepRunsTheDecodedCommand : Prop :=
  ∀ (s : State) (w : CommandWord) (i : Instr), s.acceptsWord w → s.unreachable = false → decode w = .ok i →
    step s = match exec i s with
      | .next t => .next { t with inputs := s.inputs.tail, cycle := s.cycle + 1, pit := s.nextPit t }
      | .fault f => .fault f
      | .refused r => .refused r

/-- The model's own (log 4): after `withFetchWord` the very next step runs the command the table word decodes to. -/
def Obligations.FetchWordIsRunNext : Prop :=
  ∀ (s : State) (nbits w : Nat) (i : Instr), decodeTableWord nbits w = some i →
    ∃ u : State, u = s.withFetchWord nbits w ∧
      step u = match exec i u with
        | .next t => .next { t with inputs := s.inputs.tail, cycle := s.cycle + 1, pit := u.nextPit t }
        | .fault f => .fault f
        | .refused r => .refused r

/-- 30_encoding.md R75, R82: accepting an illegal word sets `ERR_ILL` and changes nothing else, before INIT as after
it. -/
def Obligations.IllegalWordOnlySetsErrIll : Prop :=
  ∀ (s : State) (w : CommandWord), s.acceptsWord w → s.unreachable = false →
    legal (opField w) (argField w) = false → clocksTo s { s with errIll := true }

/-- 30_encoding.md R71: in IDLE with no command presented the step changes nothing. -/
def Obligations.IdleWithNoCommandChangesNothing : Prop :=
  ∀ s : State, s.phase = .idle → s.unreachable = false → s.currentInput.rst = false →
    s.currentInput.cmdValid = false → clocksTo s s

/-- 10_state.md R30, 30_encoding.md R71: a command is accepted exactly when `rst = 0`, `cmd_valid = 1` and
`PHASE = IDLE`. -/
def Obligations.AcceptedExactlyWhenReadyAndValid : Prop :=
  ∀ (s : State) (inp : Input),
    (s.accepts inp = true ↔ inp.rst = false ∧ inp.cmdValid = true ∧ s.phase = .idle) ∧
    (s.accepts inp = true ↔ inp.cmdValid = true ∧ s.cmdReady inp.rst = true)

/-- 10_state.md R30, 30_encoding.md R71: while a command is in progress the step does not depend on the command port. -/
def Obligations.BusyStepIgnoresTheCommandPort : Prop :=
  ∀ (s : State) (v v' : Bool) (w w' : CommandWord) (rst fd : Bool) (rest : List Input), s.phase ≠ .idle →
    step { s with inputs := { rst := rst, cmdValid := v, cmd := w, foreignDrive := fd } :: rest } =
    step { s with inputs := { rst := rst, cmdValid := v', cmd := w', foreignDrive := fd } :: rest }

/-! ### The phases -/

/-- 40_delay.md R91: a timed phase just entered lasts exactly `L` cycles, the counter running down from `L - 1` to 0,
and is left in the step out of the last. -/
def Obligations.TimedPhaseLastsItsLength : Prop :=
  ∀ s : State, s.phase = .xfS ∨ s.phase.inBusCycle = true ∨ s.phase = .dl → s.unreachable = false →
    s.dlyCnt = phaseLength s.cfg s.phase - 1 → s.noReset (phaseLength s.cfg s.phase) →
    (∀ j, j < phaseLength s.cfg s.phase →
      ∃ t, reaches j s t ∧ t.phase = s.phase ∧ t.dlyCnt = phaseLength s.cfg s.phase - 1 - j) ∧
    (∃ t, reaches (phaseLength s.cfg s.phase) s t ∧ t.phase ≠ s.phase)

/-- 42_transfer.md R131, R132: the steps of XF_S and XF_A, counting down and at their exits. -/
def Obligations.SetupAndSelectSteps : Prop :=
  ∀ s : State, s.unreachable = false → s.currentInput.rst = false →
    (s.phase = .xfS →
      clocksTo s (if s.dlyCnt ≠ 0 then { s with dlyCnt := s.dlyCnt - 1 }
        else { s with csN := false, phase := .xfA, dlyCnt := s.cfg.params.nDly - 1 })) ∧
    (s.phase = .xfA →
      clocksTo s (if s.dlyCnt ≠ 0 then { s with dlyCnt := s.dlyCnt - 1 }
        else { s with wrN := false, phase := .xfB, dlyCnt := 2 * s.cfg.params.nDly - 1 }))

/-- 42_transfer.md R133: the step of XF_B, which at its exit raises WR# and emits the write of the data on the bus to
the address on the lines. -/
def Obligations.StrobeStepEmitsTheWrite : Prop :=
  ∀ s : State, s.unreachable = false → s.currentInput.rst = false → s.phase = .xfB →
    clocksTo s (if s.dlyCnt ≠ 0 then { s with dlyCnt := s.dlyCnt - 1 }
      else { s with
        wrN := true, phase := .xfC, dlyCnt := s.cfg.params.nDly - 1,
        events := s.events ++ [⟨BitVec.ofNat 2 (2 * s.a1.toNat + s.a0.toNat), s.d⟩] })

/-- 42_transfer.md R134, R135, 40_delay.md R95: the steps of XF_C, of XF_D (whose exit starts the next byte of an ST0 or
ends the command) and of DL. -/
def Obligations.HoldRecoveryAndDelaySteps : Prop :=
  ∀ s : State, s.unreachable = false → s.currentInput.rst = false →
    (s.dlyCnt ≠ 0 → s.phase = .xfC ∨ s.phase = .xfD ∨ s.phase = .dl →
      clocksTo s { s with dlyCnt := s.dlyCnt - 1 }) ∧
    (s.dlyCnt = 0 → s.phase = .xfC →
      clocksTo s { s with csN := true, phase := .xfD, dlyCnt := s.cfg.params.nDly - 1 }) ∧
    (s.dlyCnt = 0 → s.phase = .xfD → s.seq = .st0 → s.byteIdx = 0 →
      clocksTo s { s with
        byteIdx := 1, a1 := false, a0 := false, d := s.div.extractLsb' 0 8, phase := .xfS, dlyCnt := 0 }) ∧
    (s.dlyCnt = 0 → s.phase = .xfD → s.seq = .st0 → s.byteIdx = 1 →
      clocksTo s { s with
        byteIdx := 2, a1 := false, a0 := false, d := s.div.extractLsb' 8 8, phase := .xfS, dlyCnt := 0 }) ∧
    (s.dlyCnt = 0 → s.phase = .xfD → ¬ (s.seq = .st0 ∧ s.byteIdx.toNat < 2) →
      clocksTo s { s with seq := .none, byteIdx := 0, phase := .idle }) ∧
    (s.dlyCnt = 0 → s.phase = .dl → clocksTo s { s with phase := .idle })

/-- 40_delay.md R93: the successors of the phases, and no other transition of `PHASE`. -/
def Obligations.PhaseSuccessorsAreTheTable : Prop :=
  ∀ s t : State, s.Inv → step s = .next t →
    (s.currentInput.rst = true → t.phase = .idle) ∧
    (s.currentInput.rst = false →
      (s.phase ≠ .idle → s.dlyCnt ≠ 0 → t.phase = s.phase) ∧
      (s.dlyCnt = 0 →
        (s.phase = .xfS → t.phase = .xfA) ∧
        (s.phase = .xfA → t.phase = .xfB) ∧
        (s.phase = .xfB → t.phase = .xfC) ∧
        (s.phase = .xfC → t.phase = .xfD) ∧
        (s.phase = .xfD → t.phase = if s.seq = .st0 ∧ s.byteIdx < 2 then .xfS else .idle) ∧
        (s.phase = .dl → t.phase = .idle)) ∧
      (s.phase = .idle →
        (s.accepts s.currentInput = true → s.initDone = true → decode s.currentInput.cmd = .ok .xfer →
          t.phase = .xfA) ∧
        (∀ l m, s.accepts s.currentInput = true → s.initDone = true →
          decode s.currentInput.cmd = .ok (.st0 l m) → t.phase = .xfS) ∧
        (s.accepts s.currentInput = true → s.initDone = true → decode s.currentInput.cmd = .ok .delay →
          t.phase = .dl) ∧
        (s.currentInput.cmdValid = false ∨ s.initDone = false ∨
            (decode s.currentInput.cmd ≠ .ok .xfer ∧ decode s.currentInput.cmd ≠ .ok .delay ∧
              ∀ l m, decode s.currentInput.cmd ≠ .ok (.st0 l m)) →
          t.phase = .idle)))

/-! ### Schedules -/

/-- 42_transfer.md R137 (the schedule and the event's cycle): for XFER accepted in cycle `c`, the phase, the lines and
the events in each of the cycles `c+1` to `c+5*N_DLY+1`, and the address and data unchanged throughout. -/
def Obligations.XferRunsItsSchedule : Prop :=
  ∀ (s : State) (j : Nat), s.Inv → s.initDone = true → s.acceptsWord 0x40000 → 1 ≤ j →
    j ≤ 5 * s.cfg.nDly + 1 → s.noReset j →
    ∃ t, reaches j s t ∧ t.phase = busCyclePhase s.cfg.nDly j ∧
      (t.csN = false ↔ j ≤ 4 * s.cfg.nDly) ∧
      (t.wrN = false ↔ s.cfg.nDly < j ∧ j ≤ 3 * s.cfg.nDly) ∧
      t.a1 = s.a1 ∧ t.a0 = s.a0 ∧ t.d = s.d ∧ t.oe = true ∧
      t.events = s.events ++ (if 3 * s.cfg.nDly < j then [⟨addressOf s.a1 s.a0, s.d⟩] else [])

/-- 42_transfer.md R140 (two XFERs with no SETD between), 20_memory.md R56: XFER words held on the port are accepted
`5*N_DLY + 1` cycles apart and write the same byte twice, as two events. -/
def Obligations.BackToBackXfersAreTwoWrites : Prop :=
  ∀ s : State, s.Inv → s.initDone = true → s.phase = .idle →
    (∀ k, k < 2 * (5 * s.cfg.nDly + 1) →
      (s.inputAt k).rst = false ∧ (s.inputAt k).cmdValid = true ∧ (s.inputAt k).cmd = 0x40000) →
    (∃ t, reaches (5 * s.cfg.nDly + 1) s t ∧ t.phase = .idle ∧ t.acceptsWord 0x40000) ∧
    (∃ t, reaches (2 * (5 * s.cfg.nDly + 1)) s t ∧ t.phase = .idle ∧
      t.events = s.events ++ [⟨addressOf s.a1 s.a0, s.d⟩, ⟨addressOf s.a1 s.a0, s.d⟩])

/-- 43_set_timer0.md R152: for ST0 accepted in cycle `c`, the phase, the lines, the address, the data and the events in
each of the cycles `c+1` to `c+15*N_DLY+4`. -/
def Obligations.St0RunsItsSchedule : Prop :=
  ∀ (s : State) (lsb msb : Byte) (j : Nat), s.Inv → s.initDone = true →
    s.acceptsWord (encode (.st0 lsb msb)) → 1 ≤ j → j ≤ 15 * s.cfg.nDly + 4 → s.noReset j →
    ∃ t, reaches j s t ∧ t.phase = st0Phase s.cfg.nDly j ∧
      (t.csN = false ↔ t.phase = .xfA ∨ t.phase = .xfB ∨ t.phase = .xfC) ∧
      (t.wrN = false ↔ t.phase = .xfB) ∧
      addressOf t.a1 t.a0 = (if st0Byte s.cfg.nDly j = 0 then 0b11 else 0b00) ∧
      t.d = st0Data lsb msb (st0Byte s.cfg.nDly j) ∧
      t.events = s.events ++ (st0Writes lsb msb).take
        ((if 3 * s.cfg.nDly + 1 < j then 1 else 0) + (if 8 * s.cfg.nDly + 2 < j then 1 else 0) +
          (if 13 * s.cfg.nDly + 3 < j then 1 else 0))

/-- 43_set_timer0.md R153, R154, R155: an ST0 with effect emits exactly three writes, in order, whatever the divisor and
whatever ran before (R156); when `cmd_ready` returns the bus is idle at Timer 0's address with the MSB on it, `DIV` holds
the divisor, and no error was raised. -/
def Obligations.St0EmitsExactlyThreeWrites : Prop :=
  ∀ (s : State) (lsb msb : Byte), s.Inv → s.initDone = true → s.acceptsWord (encode (.st0 lsb msb)) →
    s.noReset (15 * s.cfg.nDly + 4) →
    ∃ t, reaches (15 * s.cfg.nDly + 4) s t ∧ t.cmdReady false = true ∧
      t.events = s.events ++ [⟨0b11, 0x36⟩, ⟨0b00, lsb⟩, ⟨0b00, msb⟩] ∧
      t.csN = true ∧ t.wrN = true ∧ t.a1 = false ∧ t.a0 = false ∧ t.d = msb ∧ t.seq = .none ∧ t.byteIdx = 0 ∧
      t.div = msb ++ lsb ∧ t.errIll = s.errIll ∧ t.errNoInit = s.errNoInit

/-- 30_encoding.md R79: how many cycles an accepted word keeps `cmd_ready` at 0, for every command, an illegal word and
a command before INIT. -/
def Obligations.CommandOccupiesTheStatedCycles : Prop :=
  ∀ (s : State) (w : CommandWord), s.Inv → s.acceptsWord w → s.noReset (wordOccupancy s w) →
    (∀ j, 1 ≤ j → j < wordOccupancy s w → ∃ t, reaches j s t ∧ t.cmdReady false = false) ∧
    (∃ t, reaches (wordOccupancy s w) s t ∧ t.cmdReady false = true)

/-- 60_exceptions.md R174, 40_delay.md R93: the block never hangs: with no reset it is back in IDLE after at most
`15*N_DLY + 3` cycles, whatever it is doing. -/
def Obligations.BlockReturnsToIdle : Prop :=
  ∀ s : State, s.Inv → s.noReset (15 * s.cfg.nDly + 3) →
    ∃ k t, k ≤ 15 * s.cfg.nDly + 3 ∧ reaches k s t ∧ t.phase = .idle

/-! ### Invariants -/

/-- 10_state.md R33, R34: the launch state, of any configuration, meets the invariant. -/
def Obligations.InvariantHoldsAtReset : Prop :=
  State.reset.Inv ∧ ∀ c : Config, (State.resetOf c).Inv

/-- 10_state.md R34, R36, with R24's table of lines: every step, of every command and phase and with any inputs, keeps
the invariant. -/
def Obligations.EveryStepKeepsTheInvariant : Prop :=
  ∀ s t : State, s.Inv → step s = .next t → t.Inv

/-- 60_exceptions.md R174, 10_state.md R36: from a state that meets the invariant no step faults or is refused, and it
never reaches a state that does. -/
def Obligations.NoStepStopsUnderTheInvariant : Prop :=
  ∀ (s : State) (n : Nat), s.Inv → ∃ t, reaches n s t ∧ t.Inv

/-- 10_state.md R36, 40_delay.md R90: a step faults exactly from an unreachable encoding with `rst = 0`, and is never
refused. -/
def Obligations.FaultExactlyAtUnreachableEncodings : Prop :=
  ∀ s : State,
    (step s = .fault .unreachableState ↔
      s.currentInput.rst = false ∧ (s.phase = .unused7 ∨ s.seq = .unused3 ∨ s.byteIdx = 3)) ∧
    (∀ r, step s ≠ .refused r)

/-- 40_delay.md R97, 10_state.md R25: in a state that meets the invariant the delay counter fits in its `W_DLY` bits. -/
def Obligations.DelayCounterFitsItsWidth : Prop :=
  ∀ s : State, s.Inv → s.dlyCnt < 2 ^ s.cfg.params.wDly

/-- 43_set_timer0.md R151, R152: while ST0 owns the bus its current byte is on the lines; every step keeps this, and it
holds at reset. -/
def Obligations.EveryStepKeepsSt0ByteOnTheBus : Prop :=
  State.reset.st0Bus ∧ ∀ s t : State, s.Inv → s.st0Bus → step s = .next t → t.st0Bus

/-- 70_reset_and_hazards.md R211: `A1`, `A0` and `D` do not change in any step that begins or ends with CS# low, and
keep their values for `N_DLY` cycles from the first in which CS# is high again. -/
def Obligations.AddressAndDataStableAroundTheStrobe : Prop :=
  ∀ s t : State, s.Inv → step s = .next t → s.currentInput.rst = false →
    (s.csN = false ∨ t.csN = false → t.a1 = s.a1 ∧ t.a0 = s.a0 ∧ t.d = s.d) ∧
    (s.csN = false → t.csN = true → ∀ j, j < s.cfg.nDly → t.noReset j →
      ∃ u, reaches j t u ∧ u.a1 = s.a1 ∧ u.a0 = s.a0 ∧ u.d = s.d)

/-- 70_reset_and_hazards.md R217: no transition changes CS# and WR# together, none that changes either changes the
address or the data; only the acceptance of the first INIT since reset changes `OE`, and CS# and WR# are then high; and
reset stops driving every pin at once. -/
def Obligations.EdgesAreSeparate : Prop :=
  ∀ s t : State, s.Inv → step s = .next t →
    (s.currentInput.rst = false →
      (t.csN ≠ s.csN → t.wrN = s.wrN) ∧
      (t.csN ≠ s.csN ∨ t.wrN ≠ s.wrN → t.a1 = s.a1 ∧ t.a0 = s.a0 ∧ t.d = s.d ∧ t.oe = s.oe) ∧
      (t.oe ≠ s.oe → s.accepts s.currentInput = true ∧ decode s.currentInput.cmd = .ok .init ∧
        s.initDone = false ∧ t.oe = true ∧ (∀ p, s.drives p = none) ∧ (∀ p, t.drives p = some (t.latch p)) ∧
        t.drives .cs = some true ∧ t.drives .wr = some true)) ∧
    (s.currentInput.rst = true → ∀ p, t.drives p = none)

/-- 20_memory.md R52: a step at XF_B's exit (with no reset) raises WR#, leaves CS# as it is and emits exactly one event,
the data latch at the address of the address latches; no other step emits any. -/
def Obligations.OnlyTheStrobeExitEmits : Prop :=
  ∀ s t : State, step s = .next t →
    (s.currentInput.rst = false ∧ s.phase = .xfB ∧ s.dlyCnt = 0 →
      t.wrN = true ∧ t.csN = s.csN ∧
      t.events = s.events ++ [⟨BitVec.ofNat 2 (2 * s.a1.toNat + s.a0.toNat), s.d⟩]) ∧
    (¬ (s.currentInput.rst = false ∧ s.phase = .xfB ∧ s.dlyCnt = 0) → t.events = s.events)

/-- 10_state.md R29, 60_exceptions.md R172, R173: exactly when each flag is set and cleared, in every step. -/
def Obligations.FlagsFollowTheirRules : Prop :=
  ∀ s t : State, step s = .next t →
    t.initDone =
      (if s.currentInput.rst = true then false
       else if s.accepts s.currentInput = true ∧ decode s.currentInput.cmd = .ok .init then true
       else s.initDone) ∧
    t.errIll =
      (if s.currentInput.rst = true then false
       else if s.accepts s.currentInput = true then
         (if legal (opField s.currentInput.cmd) (argField s.currentInput.cmd) = false then true
          else if decode s.currentInput.cmd = .ok .init then false else s.errIll)
       else s.errIll) ∧
    t.errNoInit =
      (if s.currentInput.rst = true then false
       else if s.accepts s.currentInput = true ∧
           legal (opField s.currentInput.cmd) (argField s.currentInput.cmd) = true then
         (if decode s.currentInput.cmd = .ok .init then false
          else if s.initDone = false then true else s.errNoInit)
       else s.errNoInit)

/-- 10_state.md R27: `OE` is set by INIT and only by INIT, and cleared by reset and only by reset. -/
def Obligations.OutputsEnabledByInitOnly : Prop :=
  ∀ s t : State, step s = .next t →
    t.oe = if s.currentInput.rst = true then false
      else if s.accepts s.currentInput = true ∧ decode s.currentInput.cmd = .ok .init then true
      else s.oe

/-- 10_state.md R23: a step that changes `D` does so with CS# and WR# high before and after it, and is the acceptance of
INIT, SETD or ST0 or ST0's byte advance. -/
def Obligations.DataBusChangesOnlyWhileIdleLines : Prop :=
  ∀ s t : State, s.Inv → step s = .next t → s.currentInput.rst = false → t.d ≠ s.d →
    s.csN = true ∧ s.wrN = true ∧ t.csN = true ∧ t.wrN = true ∧
    ((s.accepts s.currentInput = true ∧
        (decode s.currentInput.cmd = .ok .init ∨ (∃ b, decode s.currentInput.cmd = .ok (.setd b)) ∨
          ∃ l m, decode s.currentInput.cmd = .ok (.st0 l m))) ∨
      (s.phase = .xfD ∧ s.dlyCnt = 0 ∧ s.seq = .st0 ∧ s.byteIdx < 2))

/-! ### Encoding -/

/-- 30_encoding.md R73: decoding the encoding of any command, with any operands, gives it back. -/
def Obligations.DecodeOfEncode : Prop := ∀ i : Instr, decode (encode i) = .ok i

/-- 30_encoding.md R73, R74: a word that decodes is the encoding of what it decodes to, so no two words are the same
command. -/
def Obligations.EncodeOfDecode : Prop := ∀ (w : CommandWord) (i : Instr), decode w = .ok i → encode i = w

/-- 30_encoding.md R74: a word decodes exactly when it is legal, and the rows of the opcode table whose mask and match
cover it are the one row of the command it decodes to, and none if it is illegal. -/
def Obligations.DecodesExactlyTheLegalWords : Prop :=
  ∀ w : CommandWord,
    ((∃ i, decode w = .ok i) ↔ legal (opField w) (argField w) = true) ∧
    (∀ i, decode w = .ok i →
      (opcodeTable.filter (fun r => r.covers w)).map (fun r => r.mnemonic) = [mnemonicOf i]) ∧
    (legal (opField w) (argField w) = false → opcodeTable.filter (fun r => r.covers w) = [])

/-- 95_test_vectors.md V1, 30_encoding.md R80: words written out from the spec decode as it says. -/
def Obligations.SpecWordsDecodeAsWritten : Prop :=
  decode 0x10000 = .ok .init ∧ decode 0x20003 = .ok (.seta true true) ∧ decode 0x20001 = .ok (.seta false true) ∧
  decode 0x300FF = .ok (.setd 0xFF) ∧ decode 0x40000 = .ok .xfer ∧ decode 0x51234 = .ok (.st0 0x34 0x12) ∧
  decode 0x60000 = .ok .delay ∧ decode 0x00000 = .error (.reservedOpcode 0) ∧
  decode 0x20004 = .error (.reservedBits "SETA")

/-- 30_encoding.md R80: each assembler line with operands in range is the one word of the command it names, and one with
an operand out of range is an error with no word; `.word` is any 20-bit word as it stands. -/
def Obligations.AssembledLinesAreTheirCommands : Prop :=
  (∀ addr : Nat, assemble (.seta addr) =
    if addr < 4 then .ok [encode (.seta (addr.testBit 1) (addr.testBit 0))] else .error .operandOutOfRange) ∧
  (∀ byte : Nat, assemble (.setd byte) =
    if byte < 256 then .ok [encode (.setd (BitVec.ofNat 8 byte))] else .error .operandOutOfRange) ∧
  (∀ lsb msb : Nat, assemble (.st0 lsb msb) =
    if lsb < 256 ∧ msb < 256 then .ok [encode (.st0 (BitVec.ofNat 8 lsb) (BitVec.ofNat 8 msb))]
    else .error .operandOutOfRange) ∧
  (∀ w : Nat, assemble (.word w) =
    if w < 2 ^ 20 then .ok [BitVec.ofNat 20 w] else .error .operandOutOfRange) ∧
  assemble .init = .ok [encode .init] ∧ assemble .xfer = .ok [encode .xfer] ∧ assemble .delay = .ok [encode .delay]

/-- 30_encoding.md R81, R80: the pseudo-instructions, with operands in range, are their expansions, and one with an
operand out of range is an error with no word. -/
def Obligations.PseudoInstructionsExpand : Prop :=
  (∀ addr byte : Nat, assemble (.wrbyte addr byte) =
    if addr < 4 ∧ byte < 256 then
      .ok [encode (.seta (addr.testBit 1) (addr.testBit 0)), encode (.setd (BitVec.ofNat 8 byte)), encode .xfer]
    else .error .operandOutOfRange) ∧
  (∀ byte : Nat, assemble (.wrctrl byte) =
    if byte < 256 then assemble (.wrbyte 3 byte) else .error .operandOutOfRange) ∧
  (∀ byte : Nat, assemble (.wrt0 byte) =
    if byte < 256 then assemble (.wrbyte 0 byte) else .error .operandOutOfRange) ∧
  (∀ value : Nat, assemble (.settimer0 value) =
    if value < 65536 then assemble (.st0 (value % 256) (value / 256)) else .error .operandOutOfRange) ∧
  (∀ lsb msb : Nat, assemble (.st0Slow lsb msb) =
    if lsb < 256 ∧ msb < 256 then
      .ok [encode (.seta true true), encode (.setd 0x36), encode .xfer,
        encode (.seta false false), encode (.setd (BitVec.ofNat 8 lsb)), encode .xfer,
        encode (.seta false false), encode (.setd (BitVec.ofNat 8 msb)), encode .xfer]
    else .error .operandOutOfRange) ∧
  (∀ n : Nat, assemble (.wait n) = .ok (List.replicate n (encode .delay)))

/-! ### Status and pins -/

/-- 10_state.md R28: the four bits of `STATUS`. -/
def Obligations.StatusBitsAreTheFlags : Prop :=
  ∀ s : State,
    (s.status.getLsbD 0 = true ↔ s.phase ≠ .idle) ∧ s.status.getLsbD 1 = s.initDone ∧
    s.status.getLsbD 2 = s.errIll ∧ s.status.getLsbD 3 = s.errNoInit

/-- 10_state.md R27: with `OE = 1` every pin carries its latch, with `OE = 0` none is driven. -/
def Obligations.PinsCarryTheLatchesWhenEnabled : Prop :=
  ∀ s : State,
    (s.oe = true → s.drives .cs = some s.csN ∧ s.drives .wr = some s.wrN ∧ s.drives .a0 = some s.a0 ∧
      s.drives .a1 = some s.a1 ∧ ∀ i : Fin 8, s.drives (.d i) = some (s.d.getLsbD i.val)) ∧
    (s.oe = false → ∀ p, s.drives p = none)

/-- 10_state.md R31, 20_memory.md R58: on the control port the block drives its four lines at their four bits, and no
other bit. -/
def Obligations.ControlPortCarriesOnlyTheFourLines : Prop :=
  ∀ s : State,
    s.drivesCtrlPort s.cfg.params.pinCs = s.drives .cs ∧ s.drivesCtrlPort s.cfg.params.pinWr = s.drives .wr ∧
    s.drivesCtrlPort s.cfg.params.pinA0 = s.drives .a0 ∧ s.drivesCtrlPort s.cfg.params.pinA1 = s.drives .a1 ∧
    (∀ b, b ∉ [s.cfg.params.pinCs, s.cfg.params.pinWr, s.cfg.params.pinA0, s.cfg.params.pinA1] →
      s.drivesCtrlPort b = none)

/-! ### The external 8254 -/

/-- 60_exceptions.md R186, 43_set_timer0.md R152: an ST0 run to its end by a calibrated block, with no reset and no other
agent on the bus bits, programs Timer 0 with `msb*256 + lsb`, its last write being emitted out of cycle
`c + 3 + 13*N_DLY`. (That this holds whatever came before is R187's last paragraph as the model reads it: DEDUCED, log 10; a disturbance
before the acceptance too: DESIGN CHOICE, log 27.) -/
def Obligations.CalibratedSt0ProgramsTimer0 : Prop :=
  ∀ (s : State) (lsb msb : Byte), s.Inv → s.initDone = true → s.acceptsWord (encode (.st0 lsb msb)) →
    s.noReset (15 * s.cfg.nDly + 4) → s.ownBus (15 * s.cfg.nDly + 4) → s.cfg.calibrated = true →
    ∃ t, reaches (15 * s.cfg.nDly + 4) s t ∧
      t.pit.timer0 = .squareWave (BitVec.ofNat 16 (msb.toNat * 256 + lsb.toNat))
        (s.cycle + 3 + 13 * s.cfg.nDly)

/-- 60_exceptions.md R187, 93 U3, U5, U6, U7: after a step whose bus was not the block's alone (pins undriven before or
after it, or another agent on the bus bits), and after a write by an uncalibrated block, Timer 0 is a free value. That
the free values are these constants of the next cycle, and that the recorded part of a triple is forgotten, is the
model's choice: DESIGN CHOICE, log 9, and DEDUCED, log 10. -/
def Obligations.DisturbedBusLeavesTimer0Free : Prop :=
  ∀ s t : State, step s = .next t →
    (s.oe = false ∨ t.oe = false ∨ s.currentInput.foreignDrive = true ∨
      (t.events ≠ s.events ∧ s.cfg.calibrated = false)) →
    t.pit.timer0 = Config.timer0Draw (s.cycle + 1) ∧ t.pit.other = Config.chipDraw (s.cycle + 1) ∧
    t.pit.progress = .start

/-- 60_exceptions.md R186, R187: a step programs Timer 0 only by the third of three writes, the last of the event log:
0x36 to 0b11, then the LSB and the MSB to 0b00; after a write that is not such a third, Timer 0 is a free value. That it
is one after the control word and after the LSB of a good triple too is the model's inference (DEDUCED, log 24), and the
recorded part of a triple and the form of the free value are its choice (DESIGN CHOICE, log 9). -/
def Obligations.OnlyACompleteTripleProgramsTimer0 : Prop :=
  ∀ s t : State, s.tripleRecorded → step s = .next t → t.events ≠ s.events →
    t.pit.timer0 = Config.timer0Draw (s.cycle + 1) ∨
    ∃ l lsb msb, t.events = l ++ [⟨0b11, 0x36⟩, ⟨0b00, lsb⟩, ⟨0b00, msb⟩] ∧
      t.pit.timer0 = .squareWave (msb ++ lsb) s.cycle

/-- The model's own record (log 9): every step keeps the agreement of the recorded part of a triple with the end of the
event log, and it holds at reset. -/
def Obligations.EveryStepKeepsTheTripleRecord : Prop :=
  State.reset.tripleRecorded ∧ ∀ s t : State, s.tripleRecorded → step s = .next t → t.tripleRecorded

/-- 60_exceptions.md R186: once the output follows a programmed divisor that is not small, its frequency is
`F_PIT_CLK / value`. (The free onset, the bound of small divisors and 65536 for 0 are the model's, log 12 to 14.) -/
def Obligations.Timer0FrequencyIsClockOverDivisor : Prop :=
  ∀ (s : State) (v : Half) (since : Nat), s.pit.timer0 = .squareWave v since →
    since + Config.onsetDelay since < s.cycle →
    (v ≠ 0 → s.cfg.params.smallDivisor ≤ v.toNat →
      s.timer0Frequency = s.cfg.params.fPitClk / (v.toNat : ℚ)) ∧
    (v = 0 → s.timer0Frequency = s.cfg.params.fPitClk / 65536)

/-! ### The data port, the levels seen, and a disturbed command -/

/-- 10_state.md R31, R27, 20_memory.md R54: bit `i` of the data port carries `D[i]` with `OE = 1`, and with `OE = 0` the
block drives no bit of it. -/
def Obligations.DataPortCarriesTheDataLatch : Prop :=
  ∀ (s : State) (i : Fin 8),
    (s.oe = true → s.drivesDataPort i = some (s.d.getLsbD i.val)) ∧ (s.oe = false → s.drivesDataPort i = none)

/-- 10_state.md R27, 70_reset_and_hazards.md R212, 93 U6, U7: the levels seen on the pins are the latches where the block
alone drives, and any value where it does not drive or where another agent drives a line of the control port, which
never disturbs the data lines. That the free level is one of the pin and the cycle is the model's inference (DEDUCED,
log 15). -/
def Obligations.LevelsSeenAreTheLatchesOrFree : Prop :=
  ∀ s : State,
    (s.oe = true → ∀ i : Fin 8, s.levelSeen (.d i) = s.d.getLsbD i.val) ∧
    (s.oe = true → s.currentInput.foreignDrive = false →
      s.levelSeen .cs = s.csN ∧ s.levelSeen .wr = s.wrN ∧ s.levelSeen .a0 = s.a0 ∧ s.levelSeen .a1 = s.a1) ∧
    (s.oe = false → ∀ p, s.levelSeen p = Config.freeLevel s.cycle p) ∧
    (s.currentInput.foreignDrive = true → ∀ p, p ∈ [BusPin.cs, BusPin.wr, BusPin.a0, BusPin.a1] →
      s.levelSeen p = Config.freeLevel s.cycle p)

/-- 70_reset_and_hazards.md R212, 93 U7: if another agent drives the bus bits in any one cycle of an XFER or of an ST0,
from its acceptance to its last cycle, then when the block is ready again Timer 0 is a free value and nothing of a triple
is recorded, whatever the command wrote and whether or not the disturbed cycle was the one that emitted the write. How
long a disturbance tells is the model's choice (DESIGN CHOICE, log 27), and the form of the free value too (log 9). -/
def Obligations.DisturbedCommandIsNoPartOfATriple : Prop :=
  ∀ (s : State) (j : Nat), s.Inv → s.initDone = true → (s.inputAt j).foreignDrive = true →
    (s.acceptsWord 0x40000 → s.noReset (5 * s.cfg.nDly + 1) → j < 5 * s.cfg.nDly + 1 →
      ∃ t k, reaches (5 * s.cfg.nDly + 1) s t ∧ t.pit.timer0 = Config.timer0Draw k ∧ s.cycle < k ∧
        t.pit.progress = .start) ∧
    (∀ lsb msb, s.acceptsWord (encode (.st0 lsb msb)) → s.noReset (15 * s.cfg.nDly + 4) →
      j < 15 * s.cfg.nDly + 4 →
      ∃ t k, reaches (15 * s.cfg.nDly + 4) s t ∧ t.pit.timer0 = Config.timer0Draw k ∧ s.cycle < k ∧
        t.pit.progress = .start)

/-- 70_reset_and_hazards.md R212, 93 U7, by the model's own record (DESIGN CHOICE, log 27): every step keeps what the
record of a disturbed command says, and it holds at reset. -/
def Obligations.EveryStepKeepsTheDisturbanceRecord : Prop :=
  State.reset.disturbanceRecorded ∧
    ∀ s t : State, s.disturbanceRecorded → step s = .next t → t.disturbanceRecorded
end

