-- ==== Sys2Proof/Laws/Config.lean ====
section
/-! SUPPORT. What the validity of a configuration gives (00_scope.md R6). -/

namespace Sys2Proof

theorem Config.checks (c : Config) :
    c.params.delayPositive = true ∧ c.params.counterFits = true ∧ c.params.pinsDistinct = true ∧
      c.params.clocksPositive = true ∧ c.params.timesNonneg = true := by
  have h := c.valid
  simp only [Params.wellFormed, Bool.and_eq_true] at h
  obtain ⟨⟨⟨⟨h1, h2⟩, h3⟩, h4⟩, h5⟩ := h
  exact ⟨h1, h2, h3, h4, h5⟩

theorem Config.one_le_nDly (c : Config) : 1 ≤ c.params.nDly := by
  simpa [Params.delayPositive] using c.checks.1

/-- The largest load of the delay counter, that of XF_B, is a number of `W_DLY` bits (10_state.md R25). -/
theorem Config.largest_load_fits (c : Config) : 2 * c.params.nDly - 1 < 2 ^ c.params.wDly := by
  have h := c.checks.2.1
  simp only [Params.counterFits, decide_eq_true_eq] at h
  have := Nat.two_pow_pos c.params.wDly
  omega

theorem Config.pins_nodup (c : Config) :
    [c.params.pinCs, c.params.pinWr, c.params.pinA0, c.params.pinA1].Nodup := by
  have h := c.checks.2.2.1
  simp only [Params.pinsDistinct, Bool.and_eq_true, decide_eq_true_eq] at h
  exact h.2

namespace Machine

/-- Every phase length is at least one cycle and at most `2*N_DLY` (40_delay.md R92). -/
theorem phaseLength_bounds (c : Config) (p : Phase) :
    1 ≤ phaseLength c p ∧ phaseLength c p ≤ 2 * c.params.nDly := by
  have h := c.one_le_nDly
  cases p <;> simp [phaseLength, Config.nDly] <;> omega

end Machine

end Sys2Proof
end

