-- ==== Sys2Proof/Laws/State.lean ====
section
/-! SUPPORT. What each field of the state is after each named update of Machine/Ops.lean and Machine/Flags.lean, so that
no proof unfolds a record update. -/

namespace Sys2Proof.Machine

variable (s : State)

@[simp] theorem enableOutputs_oe : (s.enableOutputs).oe = true := rfl
@[simp] theorem enableOutputs_csN : (s.enableOutputs).csN = s.csN := rfl
@[simp] theorem enableOutputs_wrN : (s.enableOutputs).wrN = s.wrN := rfl
@[simp] theorem enableOutputs_a0 : (s.enableOutputs).a0 = s.a0 := rfl
@[simp] theorem enableOutputs_a1 : (s.enableOutputs).a1 = s.a1 := rfl
@[simp] theorem enableOutputs_d : (s.enableOutputs).d = s.d := rfl
@[simp] theorem enableOutputs_phase : (s.enableOutputs).phase = s.phase := rfl
@[simp] theorem enableOutputs_dlyCnt : (s.enableOutputs).dlyCnt = s.dlyCnt := rfl
@[simp] theorem enableOutputs_seq : (s.enableOutputs).seq = s.seq := rfl
@[simp] theorem enableOutputs_byteIdx : (s.enableOutputs).byteIdx = s.byteIdx := rfl
@[simp] theorem enableOutputs_div : (s.enableOutputs).div = s.div := rfl
@[simp] theorem enableOutputs_initDone : (s.enableOutputs).initDone = s.initDone := rfl
@[simp] theorem enableOutputs_errIll : (s.enableOutputs).errIll = s.errIll := rfl
@[simp] theorem enableOutputs_errNoInit : (s.enableOutputs).errNoInit = s.errNoInit := rfl
@[simp] theorem enableOutputs_cfg : (s.enableOutputs).cfg = s.cfg := rfl
@[simp] theorem enableOutputs_events : (s.enableOutputs).events = s.events := rfl
@[simp] theorem enableOutputs_inputs : (s.enableOutputs).inputs = s.inputs := rfl
@[simp] theorem enableOutputs_cycle : (s.enableOutputs).cycle = s.cycle := rfl
@[simp] theorem enableOutputs_pit : (s.enableOutputs).pit = s.pit := rfl

@[simp] theorem setCs_oe (level : Bool) : (s.setCs level).oe = s.oe := rfl
@[simp] theorem setCs_csN (level : Bool) : (s.setCs level).csN = level := rfl
@[simp] theorem setCs_wrN (level : Bool) : (s.setCs level).wrN = s.wrN := rfl
@[simp] theorem setCs_a0 (level : Bool) : (s.setCs level).a0 = s.a0 := rfl
@[simp] theorem setCs_a1 (level : Bool) : (s.setCs level).a1 = s.a1 := rfl
@[simp] theorem setCs_d (level : Bool) : (s.setCs level).d = s.d := rfl
@[simp] theorem setCs_phase (level : Bool) : (s.setCs level).phase = s.phase := rfl
@[simp] theorem setCs_dlyCnt (level : Bool) : (s.setCs level).dlyCnt = s.dlyCnt := rfl
@[simp] theorem setCs_seq (level : Bool) : (s.setCs level).seq = s.seq := rfl
@[simp] theorem setCs_byteIdx (level : Bool) : (s.setCs level).byteIdx = s.byteIdx := rfl
@[simp] theorem setCs_div (level : Bool) : (s.setCs level).div = s.div := rfl
@[simp] theorem setCs_initDone (level : Bool) : (s.setCs level).initDone = s.initDone := rfl
@[simp] theorem setCs_errIll (level : Bool) : (s.setCs level).errIll = s.errIll := rfl
@[simp] theorem setCs_errNoInit (level : Bool) : (s.setCs level).errNoInit = s.errNoInit := rfl
@[simp] theorem setCs_cfg (level : Bool) : (s.setCs level).cfg = s.cfg := rfl
@[simp] theorem setCs_events (level : Bool) : (s.setCs level).events = s.events := rfl
@[simp] theorem setCs_inputs (level : Bool) : (s.setCs level).inputs = s.inputs := rfl
@[simp] theorem setCs_cycle (level : Bool) : (s.setCs level).cycle = s.cycle := rfl
@[simp] theorem setCs_pit (level : Bool) : (s.setCs level).pit = s.pit := rfl

@[simp] theorem setWr_oe (level : Bool) : (s.setWr level).oe = s.oe := rfl
@[simp] theorem setWr_csN (level : Bool) : (s.setWr level).csN = s.csN := rfl
@[simp] theorem setWr_wrN (level : Bool) : (s.setWr level).wrN = level := rfl
@[simp] theorem setWr_a0 (level : Bool) : (s.setWr level).a0 = s.a0 := rfl
@[simp] theorem setWr_a1 (level : Bool) : (s.setWr level).a1 = s.a1 := rfl
@[simp] theorem setWr_d (level : Bool) : (s.setWr level).d = s.d := rfl
@[simp] theorem setWr_phase (level : Bool) : (s.setWr level).phase = s.phase := rfl
@[simp] theorem setWr_dlyCnt (level : Bool) : (s.setWr level).dlyCnt = s.dlyCnt := rfl
@[simp] theorem setWr_seq (level : Bool) : (s.setWr level).seq = s.seq := rfl
@[simp] theorem setWr_byteIdx (level : Bool) : (s.setWr level).byteIdx = s.byteIdx := rfl
@[simp] theorem setWr_div (level : Bool) : (s.setWr level).div = s.div := rfl
@[simp] theorem setWr_initDone (level : Bool) : (s.setWr level).initDone = s.initDone := rfl
@[simp] theorem setWr_errIll (level : Bool) : (s.setWr level).errIll = s.errIll := rfl
@[simp] theorem setWr_errNoInit (level : Bool) : (s.setWr level).errNoInit = s.errNoInit := rfl
@[simp] theorem setWr_cfg (level : Bool) : (s.setWr level).cfg = s.cfg := rfl
@[simp] theorem setWr_events (level : Bool) : (s.setWr level).events = s.events := rfl
@[simp] theorem setWr_inputs (level : Bool) : (s.setWr level).inputs = s.inputs := rfl
@[simp] theorem setWr_cycle (level : Bool) : (s.setWr level).cycle = s.cycle := rfl
@[simp] theorem setWr_pit (level : Bool) : (s.setWr level).pit = s.pit := rfl

@[simp] theorem setAddr_oe (x1 x0 : Bool) : (s.setAddr x1 x0).oe = s.oe := rfl
@[simp] theorem setAddr_csN (x1 x0 : Bool) : (s.setAddr x1 x0).csN = s.csN := rfl
@[simp] theorem setAddr_wrN (x1 x0 : Bool) : (s.setAddr x1 x0).wrN = s.wrN := rfl
@[simp] theorem setAddr_a0 (x1 x0 : Bool) : (s.setAddr x1 x0).a0 = x0 := rfl
@[simp] theorem setAddr_a1 (x1 x0 : Bool) : (s.setAddr x1 x0).a1 = x1 := rfl
@[simp] theorem setAddr_d (x1 x0 : Bool) : (s.setAddr x1 x0).d = s.d := rfl
@[simp] theorem setAddr_phase (x1 x0 : Bool) : (s.setAddr x1 x0).phase = s.phase := rfl
@[simp] theorem setAddr_dlyCnt (x1 x0 : Bool) : (s.setAddr x1 x0).dlyCnt = s.dlyCnt := rfl
@[simp] theorem setAddr_seq (x1 x0 : Bool) : (s.setAddr x1 x0).seq = s.seq := rfl
@[simp] theorem setAddr_byteIdx (x1 x0 : Bool) : (s.setAddr x1 x0).byteIdx = s.byteIdx := rfl
@[simp] theorem setAddr_div (x1 x0 : Bool) : (s.setAddr x1 x0).div = s.div := rfl
@[simp] theorem setAddr_initDone (x1 x0 : Bool) : (s.setAddr x1 x0).initDone = s.initDone := rfl
@[simp] theorem setAddr_errIll (x1 x0 : Bool) : (s.setAddr x1 x0).errIll = s.errIll := rfl
@[simp] theorem setAddr_errNoInit (x1 x0 : Bool) : (s.setAddr x1 x0).errNoInit = s.errNoInit := rfl
@[simp] theorem setAddr_cfg (x1 x0 : Bool) : (s.setAddr x1 x0).cfg = s.cfg := rfl
@[simp] theorem setAddr_events (x1 x0 : Bool) : (s.setAddr x1 x0).events = s.events := rfl
@[simp] theorem setAddr_inputs (x1 x0 : Bool) : (s.setAddr x1 x0).inputs = s.inputs := rfl
@[simp] theorem setAddr_cycle (x1 x0 : Bool) : (s.setAddr x1 x0).cycle = s.cycle := rfl
@[simp] theorem setAddr_pit (x1 x0 : Bool) : (s.setAddr x1 x0).pit = s.pit := rfl

@[simp] theorem setData_oe (data : Byte) : (s.setData data).oe = s.oe := rfl
@[simp] theorem setData_csN (data : Byte) : (s.setData data).csN = s.csN := rfl
@[simp] theorem setData_wrN (data : Byte) : (s.setData data).wrN = s.wrN := rfl
@[simp] theorem setData_a0 (data : Byte) : (s.setData data).a0 = s.a0 := rfl
@[simp] theorem setData_a1 (data : Byte) : (s.setData data).a1 = s.a1 := rfl
@[simp] theorem setData_d (data : Byte) : (s.setData data).d = data := rfl
@[simp] theorem setData_phase (data : Byte) : (s.setData data).phase = s.phase := rfl
@[simp] theorem setData_dlyCnt (data : Byte) : (s.setData data).dlyCnt = s.dlyCnt := rfl
@[simp] theorem setData_seq (data : Byte) : (s.setData data).seq = s.seq := rfl
@[simp] theorem setData_byteIdx (data : Byte) : (s.setData data).byteIdx = s.byteIdx := rfl
@[simp] theorem setData_div (data : Byte) : (s.setData data).div = s.div := rfl
@[simp] theorem setData_initDone (data : Byte) : (s.setData data).initDone = s.initDone := rfl
@[simp] theorem setData_errIll (data : Byte) : (s.setData data).errIll = s.errIll := rfl
@[simp] theorem setData_errNoInit (data : Byte) : (s.setData data).errNoInit = s.errNoInit := rfl
@[simp] theorem setData_cfg (data : Byte) : (s.setData data).cfg = s.cfg := rfl
@[simp] theorem setData_events (data : Byte) : (s.setData data).events = s.events := rfl
@[simp] theorem setData_inputs (data : Byte) : (s.setData data).inputs = s.inputs := rfl
@[simp] theorem setData_cycle (data : Byte) : (s.setData data).cycle = s.cycle := rfl
@[simp] theorem setData_pit (data : Byte) : (s.setData data).pit = s.pit := rfl

@[simp] theorem setInitFlags_oe : (s.setInitFlags).oe = s.oe := rfl
@[simp] theorem setInitFlags_csN : (s.setInitFlags).csN = s.csN := rfl
@[simp] theorem setInitFlags_wrN : (s.setInitFlags).wrN = s.wrN := rfl
@[simp] theorem setInitFlags_a0 : (s.setInitFlags).a0 = s.a0 := rfl
@[simp] theorem setInitFlags_a1 : (s.setInitFlags).a1 = s.a1 := rfl
@[simp] theorem setInitFlags_d : (s.setInitFlags).d = s.d := rfl
@[simp] theorem setInitFlags_phase : (s.setInitFlags).phase = s.phase := rfl
@[simp] theorem setInitFlags_dlyCnt : (s.setInitFlags).dlyCnt = s.dlyCnt := rfl
@[simp] theorem setInitFlags_seq : (s.setInitFlags).seq = s.seq := rfl
@[simp] theorem setInitFlags_byteIdx : (s.setInitFlags).byteIdx = s.byteIdx := rfl
@[simp] theorem setInitFlags_div : (s.setInitFlags).div = s.div := rfl
@[simp] theorem setInitFlags_initDone : (s.setInitFlags).initDone = true := rfl
@[simp] theorem setInitFlags_errIll : (s.setInitFlags).errIll = false := rfl
@[simp] theorem setInitFlags_errNoInit : (s.setInitFlags).errNoInit = false := rfl
@[simp] theorem setInitFlags_cfg : (s.setInitFlags).cfg = s.cfg := rfl
@[simp] theorem setInitFlags_events : (s.setInitFlags).events = s.events := rfl
@[simp] theorem setInitFlags_inputs : (s.setInitFlags).inputs = s.inputs := rfl
@[simp] theorem setInitFlags_cycle : (s.setInitFlags).cycle = s.cycle := rfl
@[simp] theorem setInitFlags_pit : (s.setInitFlags).pit = s.pit := rfl

@[simp] theorem own_oe (q : Seq) (i : BitVec 2) : (s.own q i).oe = s.oe := rfl
@[simp] theorem own_csN (q : Seq) (i : BitVec 2) : (s.own q i).csN = s.csN := rfl
@[simp] theorem own_wrN (q : Seq) (i : BitVec 2) : (s.own q i).wrN = s.wrN := rfl
@[simp] theorem own_a0 (q : Seq) (i : BitVec 2) : (s.own q i).a0 = s.a0 := rfl
@[simp] theorem own_a1 (q : Seq) (i : BitVec 2) : (s.own q i).a1 = s.a1 := rfl
@[simp] theorem own_d (q : Seq) (i : BitVec 2) : (s.own q i).d = s.d := rfl
@[simp] theorem own_phase (q : Seq) (i : BitVec 2) : (s.own q i).phase = s.phase := rfl
@[simp] theorem own_dlyCnt (q : Seq) (i : BitVec 2) : (s.own q i).dlyCnt = s.dlyCnt := rfl
@[simp] theorem own_seq (q : Seq) (i : BitVec 2) : (s.own q i).seq = q := rfl
@[simp] theorem own_byteIdx (q : Seq) (i : BitVec 2) : (s.own q i).byteIdx = i := rfl
@[simp] theorem own_div (q : Seq) (i : BitVec 2) : (s.own q i).div = s.div := rfl
@[simp] theorem own_initDone (q : Seq) (i : BitVec 2) : (s.own q i).initDone = s.initDone := rfl
@[simp] theorem own_errIll (q : Seq) (i : BitVec 2) : (s.own q i).errIll = s.errIll := rfl
@[simp] theorem own_errNoInit (q : Seq) (i : BitVec 2) : (s.own q i).errNoInit = s.errNoInit := rfl
@[simp] theorem own_cfg (q : Seq) (i : BitVec 2) : (s.own q i).cfg = s.cfg := rfl
@[simp] theorem own_events (q : Seq) (i : BitVec 2) : (s.own q i).events = s.events := rfl
@[simp] theorem own_inputs (q : Seq) (i : BitVec 2) : (s.own q i).inputs = s.inputs := rfl
@[simp] theorem own_cycle (q : Seq) (i : BitVec 2) : (s.own q i).cycle = s.cycle := rfl
@[simp] theorem own_pit (q : Seq) (i : BitVec 2) : (s.own q i).pit = s.pit := rfl

@[simp] theorem setByteIdx_oe (i : BitVec 2) : (s.setByteIdx i).oe = s.oe := rfl
@[simp] theorem setByteIdx_csN (i : BitVec 2) : (s.setByteIdx i).csN = s.csN := rfl
@[simp] theorem setByteIdx_wrN (i : BitVec 2) : (s.setByteIdx i).wrN = s.wrN := rfl
@[simp] theorem setByteIdx_a0 (i : BitVec 2) : (s.setByteIdx i).a0 = s.a0 := rfl
@[simp] theorem setByteIdx_a1 (i : BitVec 2) : (s.setByteIdx i).a1 = s.a1 := rfl
@[simp] theorem setByteIdx_d (i : BitVec 2) : (s.setByteIdx i).d = s.d := rfl
@[simp] theorem setByteIdx_phase (i : BitVec 2) : (s.setByteIdx i).phase = s.phase := rfl
@[simp] theorem setByteIdx_dlyCnt (i : BitVec 2) : (s.setByteIdx i).dlyCnt = s.dlyCnt := rfl
@[simp] theorem setByteIdx_seq (i : BitVec 2) : (s.setByteIdx i).seq = s.seq := rfl
@[simp] theorem setByteIdx_byteIdx (i : BitVec 2) : (s.setByteIdx i).byteIdx = i := rfl
@[simp] theorem setByteIdx_div (i : BitVec 2) : (s.setByteIdx i).div = s.div := rfl
@[simp] theorem setByteIdx_initDone (i : BitVec 2) : (s.setByteIdx i).initDone = s.initDone := rfl
@[simp] theorem setByteIdx_errIll (i : BitVec 2) : (s.setByteIdx i).errIll = s.errIll := rfl
@[simp] theorem setByteIdx_errNoInit (i : BitVec 2) : (s.setByteIdx i).errNoInit = s.errNoInit := rfl
@[simp] theorem setByteIdx_cfg (i : BitVec 2) : (s.setByteIdx i).cfg = s.cfg := rfl
@[simp] theorem setByteIdx_events (i : BitVec 2) : (s.setByteIdx i).events = s.events := rfl
@[simp] theorem setByteIdx_inputs (i : BitVec 2) : (s.setByteIdx i).inputs = s.inputs := rfl
@[simp] theorem setByteIdx_cycle (i : BitVec 2) : (s.setByteIdx i).cycle = s.cycle := rfl
@[simp] theorem setByteIdx_pit (i : BitVec 2) : (s.setByteIdx i).pit = s.pit := rfl

@[simp] theorem latchDivisor_oe (v : Half) : (s.latchDivisor v).oe = s.oe := rfl
@[simp] theorem latchDivisor_csN (v : Half) : (s.latchDivisor v).csN = s.csN := rfl
@[simp] theorem latchDivisor_wrN (v : Half) : (s.latchDivisor v).wrN = s.wrN := rfl
@[simp] theorem latchDivisor_a0 (v : Half) : (s.latchDivisor v).a0 = s.a0 := rfl
@[simp] theorem latchDivisor_a1 (v : Half) : (s.latchDivisor v).a1 = s.a1 := rfl
@[simp] theorem latchDivisor_d (v : Half) : (s.latchDivisor v).d = s.d := rfl
@[simp] theorem latchDivisor_phase (v : Half) : (s.latchDivisor v).phase = s.phase := rfl
@[simp] theorem latchDivisor_dlyCnt (v : Half) : (s.latchDivisor v).dlyCnt = s.dlyCnt := rfl
@[simp] theorem latchDivisor_seq (v : Half) : (s.latchDivisor v).seq = s.seq := rfl
@[simp] theorem latchDivisor_byteIdx (v : Half) : (s.latchDivisor v).byteIdx = s.byteIdx := rfl
@[simp] theorem latchDivisor_div (v : Half) : (s.latchDivisor v).div = v := rfl
@[simp] theorem latchDivisor_initDone (v : Half) : (s.latchDivisor v).initDone = s.initDone := rfl
@[simp] theorem latchDivisor_errIll (v : Half) : (s.latchDivisor v).errIll = s.errIll := rfl
@[simp] theorem latchDivisor_errNoInit (v : Half) : (s.latchDivisor v).errNoInit = s.errNoInit := rfl
@[simp] theorem latchDivisor_cfg (v : Half) : (s.latchDivisor v).cfg = s.cfg := rfl
@[simp] theorem latchDivisor_events (v : Half) : (s.latchDivisor v).events = s.events := rfl
@[simp] theorem latchDivisor_inputs (v : Half) : (s.latchDivisor v).inputs = s.inputs := rfl
@[simp] theorem latchDivisor_cycle (v : Half) : (s.latchDivisor v).cycle = s.cycle := rfl
@[simp] theorem latchDivisor_pit (v : Half) : (s.latchDivisor v).pit = s.pit := rfl

@[simp] theorem enter_oe (p : Phase) : (s.enter p).oe = s.oe := rfl
@[simp] theorem enter_csN (p : Phase) : (s.enter p).csN = s.csN := rfl
@[simp] theorem enter_wrN (p : Phase) : (s.enter p).wrN = s.wrN := rfl
@[simp] theorem enter_a0 (p : Phase) : (s.enter p).a0 = s.a0 := rfl
@[simp] theorem enter_a1 (p : Phase) : (s.enter p).a1 = s.a1 := rfl
@[simp] theorem enter_d (p : Phase) : (s.enter p).d = s.d := rfl
@[simp] theorem enter_phase (p : Phase) : (s.enter p).phase = p := rfl
@[simp] theorem enter_dlyCnt (p : Phase) : (s.enter p).dlyCnt = phaseLength s.cfg p - 1 := rfl
@[simp] theorem enter_seq (p : Phase) : (s.enter p).seq = s.seq := rfl
@[simp] theorem enter_byteIdx (p : Phase) : (s.enter p).byteIdx = s.byteIdx := rfl
@[simp] theorem enter_div (p : Phase) : (s.enter p).div = s.div := rfl
@[simp] theorem enter_initDone (p : Phase) : (s.enter p).initDone = s.initDone := rfl
@[simp] theorem enter_errIll (p : Phase) : (s.enter p).errIll = s.errIll := rfl
@[simp] theorem enter_errNoInit (p : Phase) : (s.enter p).errNoInit = s.errNoInit := rfl
@[simp] theorem enter_cfg (p : Phase) : (s.enter p).cfg = s.cfg := rfl
@[simp] theorem enter_events (p : Phase) : (s.enter p).events = s.events := rfl
@[simp] theorem enter_inputs (p : Phase) : (s.enter p).inputs = s.inputs := rfl
@[simp] theorem enter_cycle (p : Phase) : (s.enter p).cycle = s.cycle := rfl
@[simp] theorem enter_pit (p : Phase) : (s.enter p).pit = s.pit := rfl

@[simp] theorem toIdle_oe : (s.toIdle).oe = s.oe := rfl
@[simp] theorem toIdle_csN : (s.toIdle).csN = s.csN := rfl
@[simp] theorem toIdle_wrN : (s.toIdle).wrN = s.wrN := rfl
@[simp] theorem toIdle_a0 : (s.toIdle).a0 = s.a0 := rfl
@[simp] theorem toIdle_a1 : (s.toIdle).a1 = s.a1 := rfl
@[simp] theorem toIdle_d : (s.toIdle).d = s.d := rfl
@[simp] theorem toIdle_phase : (s.toIdle).phase = .idle := rfl
@[simp] theorem toIdle_dlyCnt : (s.toIdle).dlyCnt = s.dlyCnt := rfl
@[simp] theorem toIdle_seq : (s.toIdle).seq = s.seq := rfl
@[simp] theorem toIdle_byteIdx : (s.toIdle).byteIdx = s.byteIdx := rfl
@[simp] theorem toIdle_div : (s.toIdle).div = s.div := rfl
@[simp] theorem toIdle_initDone : (s.toIdle).initDone = s.initDone := rfl
@[simp] theorem toIdle_errIll : (s.toIdle).errIll = s.errIll := rfl
@[simp] theorem toIdle_errNoInit : (s.toIdle).errNoInit = s.errNoInit := rfl
@[simp] theorem toIdle_cfg : (s.toIdle).cfg = s.cfg := rfl
@[simp] theorem toIdle_events : (s.toIdle).events = s.events := rfl
@[simp] theorem toIdle_inputs : (s.toIdle).inputs = s.inputs := rfl
@[simp] theorem toIdle_cycle : (s.toIdle).cycle = s.cycle := rfl
@[simp] theorem toIdle_pit : (s.toIdle).pit = s.pit := rfl

@[simp] theorem countDown_oe : (s.countDown).oe = s.oe := rfl
@[simp] theorem countDown_csN : (s.countDown).csN = s.csN := rfl
@[simp] theorem countDown_wrN : (s.countDown).wrN = s.wrN := rfl
@[simp] theorem countDown_a0 : (s.countDown).a0 = s.a0 := rfl
@[simp] theorem countDown_a1 : (s.countDown).a1 = s.a1 := rfl
@[simp] theorem countDown_d : (s.countDown).d = s.d := rfl
@[simp] theorem countDown_phase : (s.countDown).phase = s.phase := rfl
@[simp] theorem countDown_dlyCnt : (s.countDown).dlyCnt = s.dlyCnt - 1 := rfl
@[simp] theorem countDown_seq : (s.countDown).seq = s.seq := rfl
@[simp] theorem countDown_byteIdx : (s.countDown).byteIdx = s.byteIdx := rfl
@[simp] theorem countDown_div : (s.countDown).div = s.div := rfl
@[simp] theorem countDown_initDone : (s.countDown).initDone = s.initDone := rfl
@[simp] theorem countDown_errIll : (s.countDown).errIll = s.errIll := rfl
@[simp] theorem countDown_errNoInit : (s.countDown).errNoInit = s.errNoInit := rfl
@[simp] theorem countDown_cfg : (s.countDown).cfg = s.cfg := rfl
@[simp] theorem countDown_events : (s.countDown).events = s.events := rfl
@[simp] theorem countDown_inputs : (s.countDown).inputs = s.inputs := rfl
@[simp] theorem countDown_cycle : (s.countDown).cycle = s.cycle := rfl
@[simp] theorem countDown_pit : (s.countDown).pit = s.pit := rfl

@[simp] theorem emitWrite_oe (w : BusWrite) : (s.emitWrite w).oe = s.oe := rfl
@[simp] theorem emitWrite_csN (w : BusWrite) : (s.emitWrite w).csN = s.csN := rfl
@[simp] theorem emitWrite_wrN (w : BusWrite) : (s.emitWrite w).wrN = s.wrN := rfl
@[simp] theorem emitWrite_a0 (w : BusWrite) : (s.emitWrite w).a0 = s.a0 := rfl
@[simp] theorem emitWrite_a1 (w : BusWrite) : (s.emitWrite w).a1 = s.a1 := rfl
@[simp] theorem emitWrite_d (w : BusWrite) : (s.emitWrite w).d = s.d := rfl
@[simp] theorem emitWrite_phase (w : BusWrite) : (s.emitWrite w).phase = s.phase := rfl
@[simp] theorem emitWrite_dlyCnt (w : BusWrite) : (s.emitWrite w).dlyCnt = s.dlyCnt := rfl
@[simp] theorem emitWrite_seq (w : BusWrite) : (s.emitWrite w).seq = s.seq := rfl
@[simp] theorem emitWrite_byteIdx (w : BusWrite) : (s.emitWrite w).byteIdx = s.byteIdx := rfl
@[simp] theorem emitWrite_div (w : BusWrite) : (s.emitWrite w).div = s.div := rfl
@[simp] theorem emitWrite_initDone (w : BusWrite) : (s.emitWrite w).initDone = s.initDone := rfl
@[simp] theorem emitWrite_errIll (w : BusWrite) : (s.emitWrite w).errIll = s.errIll := rfl
@[simp] theorem emitWrite_errNoInit (w : BusWrite) : (s.emitWrite w).errNoInit = s.errNoInit := rfl
@[simp] theorem emitWrite_cfg (w : BusWrite) : (s.emitWrite w).cfg = s.cfg := rfl
@[simp] theorem emitWrite_events (w : BusWrite) : (s.emitWrite w).events = s.events ++ [w] := rfl
@[simp] theorem emitWrite_inputs (w : BusWrite) : (s.emitWrite w).inputs = s.inputs := rfl
@[simp] theorem emitWrite_cycle (w : BusWrite) : (s.emitWrite w).cycle = s.cycle := rfl
@[simp] theorem emitWrite_pit (w : BusWrite) : (s.emitWrite w).pit = s.pit := rfl

@[simp] theorem idleSequencer_oe : (s.idleSequencer).oe = s.oe := rfl
@[simp] theorem idleSequencer_csN : (s.idleSequencer).csN = s.csN := rfl
@[simp] theorem idleSequencer_wrN : (s.idleSequencer).wrN = s.wrN := rfl
@[simp] theorem idleSequencer_a0 : (s.idleSequencer).a0 = s.a0 := rfl
@[simp] theorem idleSequencer_a1 : (s.idleSequencer).a1 = s.a1 := rfl
@[simp] theorem idleSequencer_d : (s.idleSequencer).d = s.d := rfl
@[simp] theorem idleSequencer_phase : (s.idleSequencer).phase = .idle := rfl
@[simp] theorem idleSequencer_dlyCnt : (s.idleSequencer).dlyCnt = s.dlyCnt := rfl
@[simp] theorem idleSequencer_seq : (s.idleSequencer).seq = .none := rfl
@[simp] theorem idleSequencer_byteIdx : (s.idleSequencer).byteIdx = 0 := rfl
@[simp] theorem idleSequencer_div : (s.idleSequencer).div = s.div := rfl
@[simp] theorem idleSequencer_initDone : (s.idleSequencer).initDone = s.initDone := rfl
@[simp] theorem idleSequencer_errIll : (s.idleSequencer).errIll = s.errIll := rfl
@[simp] theorem idleSequencer_errNoInit : (s.idleSequencer).errNoInit = s.errNoInit := rfl
@[simp] theorem idleSequencer_cfg : (s.idleSequencer).cfg = s.cfg := rfl
@[simp] theorem idleSequencer_events : (s.idleSequencer).events = s.events := rfl
@[simp] theorem idleSequencer_inputs : (s.idleSequencer).inputs = s.inputs := rfl
@[simp] theorem idleSequencer_cycle : (s.idleSequencer).cycle = s.cycle := rfl
@[simp] theorem idleSequencer_pit : (s.idleSequencer).pit = s.pit := rfl

@[simp] theorem presentWord_oe (w : CommandWord) : (s.presentWord w).oe = s.oe := rfl
@[simp] theorem presentWord_csN (w : CommandWord) : (s.presentWord w).csN = s.csN := rfl
@[simp] theorem presentWord_wrN (w : CommandWord) : (s.presentWord w).wrN = s.wrN := rfl
@[simp] theorem presentWord_a0 (w : CommandWord) : (s.presentWord w).a0 = s.a0 := rfl
@[simp] theorem presentWord_a1 (w : CommandWord) : (s.presentWord w).a1 = s.a1 := rfl
@[simp] theorem presentWord_d (w : CommandWord) : (s.presentWord w).d = s.d := rfl
@[simp] theorem presentWord_phase (w : CommandWord) : (s.presentWord w).phase = s.phase := rfl
@[simp] theorem presentWord_dlyCnt (w : CommandWord) : (s.presentWord w).dlyCnt = s.dlyCnt := rfl
@[simp] theorem presentWord_seq (w : CommandWord) : (s.presentWord w).seq = s.seq := rfl
@[simp] theorem presentWord_byteIdx (w : CommandWord) : (s.presentWord w).byteIdx = s.byteIdx := rfl
@[simp] theorem presentWord_div (w : CommandWord) : (s.presentWord w).div = s.div := rfl
@[simp] theorem presentWord_initDone (w : CommandWord) : (s.presentWord w).initDone = s.initDone := rfl
@[simp] theorem presentWord_errIll (w : CommandWord) : (s.presentWord w).errIll = s.errIll := rfl
@[simp] theorem presentWord_errNoInit (w : CommandWord) : (s.presentWord w).errNoInit = s.errNoInit := rfl
@[simp] theorem presentWord_cfg (w : CommandWord) : (s.presentWord w).cfg = s.cfg := rfl
@[simp] theorem presentWord_events (w : CommandWord) : (s.presentWord w).events = s.events := rfl
@[simp] theorem presentWord_inputs (w : CommandWord) : (s.presentWord w).inputs = { rst := false, cmdValid := true, cmd := w, foreignDrive := false } :: s.inputs.tail := rfl
@[simp] theorem presentWord_cycle (w : CommandWord) : (s.presentWord w).cycle = s.cycle := rfl
@[simp] theorem presentWord_pit (w : CommandWord) : (s.presentWord w).pit = s.pit := rfl

@[simp] theorem nextCycle_oe (p : Pit) : (s.nextCycle p).oe = s.oe := rfl
@[simp] theorem nextCycle_csN (p : Pit) : (s.nextCycle p).csN = s.csN := rfl
@[simp] theorem nextCycle_wrN (p : Pit) : (s.nextCycle p).wrN = s.wrN := rfl
@[simp] theorem nextCycle_a0 (p : Pit) : (s.nextCycle p).a0 = s.a0 := rfl
@[simp] theorem nextCycle_a1 (p : Pit) : (s.nextCycle p).a1 = s.a1 := rfl
@[simp] theorem nextCycle_d (p : Pit) : (s.nextCycle p).d = s.d := rfl
@[simp] theorem nextCycle_phase (p : Pit) : (s.nextCycle p).phase = s.phase := rfl
@[simp] theorem nextCycle_dlyCnt (p : Pit) : (s.nextCycle p).dlyCnt = s.dlyCnt := rfl
@[simp] theorem nextCycle_seq (p : Pit) : (s.nextCycle p).seq = s.seq := rfl
@[simp] theorem nextCycle_byteIdx (p : Pit) : (s.nextCycle p).byteIdx = s.byteIdx := rfl
@[simp] theorem nextCycle_div (p : Pit) : (s.nextCycle p).div = s.div := rfl
@[simp] theorem nextCycle_initDone (p : Pit) : (s.nextCycle p).initDone = s.initDone := rfl
@[simp] theorem nextCycle_errIll (p : Pit) : (s.nextCycle p).errIll = s.errIll := rfl
@[simp] theorem nextCycle_errNoInit (p : Pit) : (s.nextCycle p).errNoInit = s.errNoInit := rfl
@[simp] theorem nextCycle_cfg (p : Pit) : (s.nextCycle p).cfg = s.cfg := rfl
@[simp] theorem nextCycle_events (p : Pit) : (s.nextCycle p).events = s.events := rfl
@[simp] theorem nextCycle_inputs (p : Pit) : (s.nextCycle p).inputs = s.inputs.tail := rfl
@[simp] theorem nextCycle_cycle (p : Pit) : (s.nextCycle p).cycle = s.cycle + 1 := rfl
@[simp] theorem nextCycle_pit (p : Pit) : (s.nextCycle p).pit = p := rfl

@[simp] theorem resetBlock_oe : (s.resetBlock).oe = false := rfl
@[simp] theorem resetBlock_csN : (s.resetBlock).csN = true := rfl
@[simp] theorem resetBlock_wrN : (s.resetBlock).wrN = true := rfl
@[simp] theorem resetBlock_a0 : (s.resetBlock).a0 = true := rfl
@[simp] theorem resetBlock_a1 : (s.resetBlock).a1 = true := rfl
@[simp] theorem resetBlock_d : (s.resetBlock).d = 0x00 := rfl
@[simp] theorem resetBlock_phase : (s.resetBlock).phase = .idle := rfl
@[simp] theorem resetBlock_dlyCnt : (s.resetBlock).dlyCnt = 0 := rfl
@[simp] theorem resetBlock_seq : (s.resetBlock).seq = .none := rfl
@[simp] theorem resetBlock_byteIdx : (s.resetBlock).byteIdx = 0 := rfl
@[simp] theorem resetBlock_div : (s.resetBlock).div = 0x0000 := rfl
@[simp] theorem resetBlock_initDone : (s.resetBlock).initDone = false := rfl
@[simp] theorem resetBlock_errIll : (s.resetBlock).errIll = false := rfl
@[simp] theorem resetBlock_errNoInit : (s.resetBlock).errNoInit = false := rfl
@[simp] theorem resetBlock_cfg : (s.resetBlock).cfg = s.cfg := rfl
@[simp] theorem resetBlock_events : (s.resetBlock).events = s.events := rfl
@[simp] theorem resetBlock_inputs : (s.resetBlock).inputs = s.inputs := rfl
@[simp] theorem resetBlock_cycle : (s.resetBlock).cycle = s.cycle := rfl
@[simp] theorem resetBlock_pit : (s.resetBlock).pit = s.pit := rfl

@[simp] theorem raise_illegal_oe : (s.raise .illegal).oe = s.oe := rfl
@[simp] theorem raise_illegal_csN : (s.raise .illegal).csN = s.csN := rfl
@[simp] theorem raise_illegal_wrN : (s.raise .illegal).wrN = s.wrN := rfl
@[simp] theorem raise_illegal_a0 : (s.raise .illegal).a0 = s.a0 := rfl
@[simp] theorem raise_illegal_a1 : (s.raise .illegal).a1 = s.a1 := rfl
@[simp] theorem raise_illegal_d : (s.raise .illegal).d = s.d := rfl
@[simp] theorem raise_illegal_phase : (s.raise .illegal).phase = s.phase := rfl
@[simp] theorem raise_illegal_dlyCnt : (s.raise .illegal).dlyCnt = s.dlyCnt := rfl
@[simp] theorem raise_illegal_seq : (s.raise .illegal).seq = s.seq := rfl
@[simp] theorem raise_illegal_byteIdx : (s.raise .illegal).byteIdx = s.byteIdx := rfl
@[simp] theorem raise_illegal_div : (s.raise .illegal).div = s.div := rfl
@[simp] theorem raise_illegal_initDone : (s.raise .illegal).initDone = s.initDone := rfl
@[simp] theorem raise_illegal_errIll : (s.raise .illegal).errIll = true := rfl
@[simp] theorem raise_illegal_errNoInit : (s.raise .illegal).errNoInit = s.errNoInit := rfl
@[simp] theorem raise_illegal_cfg : (s.raise .illegal).cfg = s.cfg := rfl
@[simp] theorem raise_illegal_events : (s.raise .illegal).events = s.events := rfl
@[simp] theorem raise_illegal_inputs : (s.raise .illegal).inputs = s.inputs := rfl
@[simp] theorem raise_illegal_cycle : (s.raise .illegal).cycle = s.cycle := rfl
@[simp] theorem raise_illegal_pit : (s.raise .illegal).pit = s.pit := rfl

@[simp] theorem raise_notInitialised_oe : (s.raise .notInitialised).oe = s.oe := rfl
@[simp] theorem raise_notInitialised_csN : (s.raise .notInitialised).csN = s.csN := rfl
@[simp] theorem raise_notInitialised_wrN : (s.raise .notInitialised).wrN = s.wrN := rfl
@[simp] theorem raise_notInitialised_a0 : (s.raise .notInitialised).a0 = s.a0 := rfl
@[simp] theorem raise_notInitialised_a1 : (s.raise .notInitialised).a1 = s.a1 := rfl
@[simp] theorem raise_notInitialised_d : (s.raise .notInitialised).d = s.d := rfl
@[simp] theorem raise_notInitialised_phase : (s.raise .notInitialised).phase = s.phase := rfl
@[simp] theorem raise_notInitialised_dlyCnt : (s.raise .notInitialised).dlyCnt = s.dlyCnt := rfl
@[simp] theorem raise_notInitialised_seq : (s.raise .notInitialised).seq = s.seq := rfl
@[simp] theorem raise_notInitialised_byteIdx : (s.raise .notInitialised).byteIdx = s.byteIdx := rfl
@[simp] theorem raise_notInitialised_div : (s.raise .notInitialised).div = s.div := rfl
@[simp] theorem raise_notInitialised_initDone : (s.raise .notInitialised).initDone = s.initDone := rfl
@[simp] theorem raise_notInitialised_errIll : (s.raise .notInitialised).errIll = s.errIll := rfl
@[simp] theorem raise_notInitialised_errNoInit : (s.raise .notInitialised).errNoInit = true := rfl
@[simp] theorem raise_notInitialised_cfg : (s.raise .notInitialised).cfg = s.cfg := rfl
@[simp] theorem raise_notInitialised_events : (s.raise .notInitialised).events = s.events := rfl
@[simp] theorem raise_notInitialised_inputs : (s.raise .notInitialised).inputs = s.inputs := rfl
@[simp] theorem raise_notInitialised_cycle : (s.raise .notInitialised).cycle = s.cycle := rfl
@[simp] theorem raise_notInitialised_pit : (s.raise .notInitialised).pit = s.pit := rfl

end Sys2Proof.Machine
end

