-- ==== Sys2Proof/Laws/Ops.lean ====
section
/-! SUPPORT. What each shared operation can do, said once: the timed phases, the initialisation check, the emission of
an event, and the meaning of a command. -/

namespace Sys2Proof.Machine

variable (s : State)

/-! ### The phases, one lemma each (40_delay.md R92, 00_scope.md R14) -/

@[simp] theorem inBusCycle_idle : Phase.inBusCycle .idle = false := rfl
@[simp] theorem inBusCycle_xfS : Phase.inBusCycle .xfS = false := rfl
@[simp] theorem inBusCycle_xfA : Phase.inBusCycle .xfA = true := rfl
@[simp] theorem inBusCycle_xfB : Phase.inBusCycle .xfB = true := rfl
@[simp] theorem inBusCycle_xfC : Phase.inBusCycle .xfC = true := rfl
@[simp] theorem inBusCycle_xfD : Phase.inBusCycle .xfD = true := rfl
@[simp] theorem inBusCycle_dl : Phase.inBusCycle .dl = false := rfl
@[simp] theorem inBusCycle_unused7 : Phase.inBusCycle .unused7 = false := rfl
@[simp] theorem phaseLength_idle (c : Config) : phaseLength c .idle = 1 := rfl
@[simp] theorem phaseLength_xfS (c : Config) : phaseLength c .xfS = 1 := rfl
@[simp] theorem phaseLength_xfA (c : Config) : phaseLength c .xfA = c.params.nDly := rfl
@[simp] theorem phaseLength_xfB (c : Config) : phaseLength c .xfB = 2 * c.params.nDly := rfl
@[simp] theorem phaseLength_xfC (c : Config) : phaseLength c .xfC = c.params.nDly := rfl
@[simp] theorem phaseLength_xfD (c : Config) : phaseLength c .xfD = c.params.nDly := rfl
@[simp] theorem phaseLength_dl (c : Config) : phaseLength c .dl = c.params.nDly := rfl
@[simp] theorem phaseLength_unused7 (c : Config) : phaseLength c .unused7 = 1 := rfl

theorem timed_counting (exit : State) (h : s.dlyCnt ≠ 0) : s.timed exit = s.countDown := by
  simp [State.timed, h]

theorem timed_exit (exit : State) (h : s.dlyCnt = 0) : s.timed exit = exit := by
  simp [State.timed, h]

/-- A cycle of a timed phase counts down or exits (40_delay.md R91). -/
theorem timed_cases (exit : State) :
    (s.dlyCnt ≠ 0 ∧ s.timed exit = s.countDown) ∨ (s.dlyCnt = 0 ∧ s.timed exit = exit) := by
  by_cases h : s.dlyCnt = 0
  · exact .inr ⟨h, timed_exit s exit h⟩
  · exact .inl ⟨h, timed_counting s exit h⟩

theorem whenInitialised_done (effect : State) (h : s.initDone = true) : whenInitialised s effect = .next effect := by
  simp [whenInitialised, h]

theorem whenInitialised_notDone (effect : State) (h : s.initDone = false) :
    whenInitialised s effect = .next (s.raise .notInitialised) := by
  simp [whenInitialised, h]

/-- No latch, phase or counter is one of R36's unreachable encodings when `State.unreachable` is false. -/
theorem unreachable_eq_false : s.unreachable = false ↔ s.phase ≠ .unused7 ∧ s.seq ≠ .unused3 ∧ s.byteIdx ≠ 3 := by
  simp [State.unreachable, and_assoc]

theorem emitted_eq_some_iff (inp : Input) (w : BusWrite) :
    s.emitted inp = some w ↔ inp.rst = false ∧ s.phase = .xfB ∧ s.dlyCnt = 0 ∧ w = s.busWrite := by
  unfold State.emitted
  constructor
  · intro h
    split at h
    · rename_i hc
      exact ⟨hc.1, hc.2.1, hc.2.2, (Option.some.inj h).symm⟩
    · cases h
  · rintro ⟨h1, h2, h3, rfl⟩
    simp [h1, h2, h3]

theorem emitted_eq_none_iff (inp : Input) :
    s.emitted inp = none ↔ ¬ (inp.rst = false ∧ s.phase = .xfB ∧ s.dlyCnt = 0) := by
  unfold State.emitted
  split <;> simp_all

theorem accepts_iff (inp : Input) :
    s.accepts inp = true ↔ inp.cmdValid = true ∧ inp.rst = false ∧ s.phase = .idle := by
  simp [State.accepts, State.cmdReady]

end Sys2Proof.Machine
end

