-- ==== Sys2Proof/Laws/PerInstr.lean ====
section
/-! SUPPORT. Statements about every command, proved command by command: the encoding of a command carries its opcode
(30_encoding.md R72) and is a legal word (R74). -/

namespace Sys2Proof.Laws

/-- The word of the command has the opcode of R72 in `cmd[19:16]` and is legal. -/
def EncodesLegalWord.Statement (i : Instr) : Prop :=
  opField (encode i) = opcodeOf i ∧ legal (opField (encode i)) (argField (encode i)) = true

theorem EncodesLegalWord.init : EncodesLegalWord.Statement .init := by
  unfold EncodesLegalWord.Statement; decide

theorem EncodesLegalWord.seta (a1 a0 : Bool) : EncodesLegalWord.Statement (.seta a1 a0) := by
  unfold EncodesLegalWord.Statement; revert a1 a0; decide

/-- The fields of a SETD word (R73). -/
theorem fields_of_setd (data : Byte) :
    opField (encode (.setd data)) = 0x3 ∧ (argField (encode (.setd data))).extractLsb' 8 8 = 0 := by
  constructor
  · ext i hi
    simp only [opField, encode]
    interval_cases i <;> simp
  · ext i hi
    simp only [argField, encode]
    interval_cases i <;> simp

theorem EncodesLegalWord.setd (data : Byte) : EncodesLegalWord.Statement (.setd data) := by
  obtain ⟨h1, h2⟩ := fields_of_setd data
  simp [EncodesLegalWord.Statement, opcodeOf, legal, h1, h2]

theorem EncodesLegalWord.xfer : EncodesLegalWord.Statement .xfer := by
  unfold EncodesLegalWord.Statement; decide

/-- The opcode of an ST0 word, whatever its operands (R72). -/
theorem op_of_st0 (lsb msb : Byte) : opField (encode (.st0 lsb msb)) = 0x5 := by
  ext i hi
  simp only [opField, encode]
  interval_cases i <;> simp

theorem EncodesLegalWord.st0 (lsb msb : Byte) : EncodesLegalWord.Statement (.st0 lsb msb) := by
  simp [EncodesLegalWord.Statement, opcodeOf, legal, op_of_st0]

theorem EncodesLegalWord.delay : EncodesLegalWord.Statement .delay := by
  unfold EncodesLegalWord.Statement; decide

end Sys2Proof.Laws
end

