-- ==== Sys2Proof/Laws/Pit.lean ====
section
/-! SUPPORT. What each case of the 8254's update is (60_exceptions.md R185 to R187). -/

namespace Sys2Proof.Machine

variable (s t : State)

@[simp] theorem nextPit_timer0 : (s.nextPit t).timer0 = (s.chipAfter t).timer0 := rfl
@[simp] theorem nextPit_other : (s.nextPit t).other = (s.chipAfter t).other := rfl
@[simp] theorem nextPit_progress : (s.nextPit t).progress = (s.chipAfter t).progress := rfl
@[simp] theorem nextPit_strobeDisturbed : (s.nextPit t).strobeDisturbed = s.disturbanceAfter t := rfl

theorem chipAfter_of_disturbed (h : busDisturbed s t = true) : s.chipAfter t = Pit.unknown (s.cycle + 1) := by
  simp [State.chipAfter, h]

theorem chipAfter_of_no_event (h : busDisturbed s t = false) (he : s.emitted s.currentInput = none) :
    s.chipAfter t = s.pit := by
  simp [State.chipAfter, h, he]

theorem chipAfter_of_event (h : busDisturbed s t = false) (w : BusWrite)
    (he : s.emitted s.currentInput = some w) :
    s.chipAfter t = s.pit.receive (!s.pit.strobeDisturbed && s.cfg.calibrated) s.cycle w := by
  simp [State.chipAfter, h, he]

/-- Everything a step can make of the chip: unknown, untouched, or as it receives the write of this step. -/
theorem chipAfter_cases :
    (busDisturbed s t = true ∧ s.chipAfter t = Pit.unknown (s.cycle + 1)) ∨
    (busDisturbed s t = false ∧ s.emitted s.currentInput = none ∧ s.chipAfter t = s.pit) ∨
    (∃ w, busDisturbed s t = false ∧ s.emitted s.currentInput = some w ∧
      s.chipAfter t = s.pit.receive (!s.pit.strobeDisturbed && s.cfg.calibrated) s.cycle w) := by
  cases h : busDisturbed s t with
  | true => exact .inl ⟨rfl, chipAfter_of_disturbed s t h⟩
  | false =>
    cases he : s.emitted s.currentInput with
    | none => exact .inr (.inl ⟨rfl, rfl, chipAfter_of_no_event s t h he⟩)
    | some w => exact .inr (.inr ⟨w, rfl, rfl, chipAfter_of_event s t h w he⟩)

/-- The record of a disturbance ends when the block is ready again. -/
theorem disturbanceAfter_of_idle (h : t.phase = .idle) : s.disturbanceAfter t = false := by
  simp [State.disturbanceAfter, h]

/-- An accepted command starts with a clean record unless the cycle of its acceptance is disturbed. -/
theorem disturbanceAfter_of_acceptance (h : s.phase = .idle) (ht : t.phase ≠ .idle) :
    s.disturbanceAfter t = busDisturbed s t := by
  simp [State.disturbanceAfter, h, ht]

/-- While a command goes on, a disturbance is remembered. -/
theorem disturbanceAfter_of_busy (h : s.phase ≠ .idle) (ht : t.phase ≠ .idle) :
    s.disturbanceAfter t = (busDisturbed s t || s.pit.strobeDisturbed) := by
  simp [State.disturbanceAfter, h, ht]

theorem receive_unsound (k : Nat) (p : Pit) (w : BusWrite) : p.receive false k w = Pit.unknown (k + 1) := by
  simp [Pit.receive]

theorem receive_control_word (k : Nat) (p : Pit) :
    p.receive true k ⟨controlAddr, controlWord⟩ = { Pit.unknown (k + 1) with progress := .control } := by
  simp [Pit.receive]

theorem receive_lsb (k : Nat) (p : Pit) (b : Byte) (h : p.progress = .control) :
    p.receive true k ⟨timer0Addr, b⟩ = { Pit.unknown (k + 1) with progress := .lsb b } := by
  simp [Pit.receive, h, controlAddr, timer0Addr]

theorem receive_msb (k : Nat) (p : Pit) (l m : Byte) (h : p.progress = .lsb l) :
    p.receive true k ⟨timer0Addr, m⟩ = { p with timer0 := .squareWave (divisorOf m l) k, progress := .start } := by
  simp [Pit.receive, h, controlAddr, timer0Addr]

end Sys2Proof.Machine
end

