-- ==== Sys2Proof/Laws/Step.lean ====
section
/-! SUPPORT. Everything one cycle of the block can do, as one list of moves (40_delay.md R90), and how a step is built
around it. Proofs about `step` split on the move and do not unfold the step. -/

namespace Sys2Proof.Machine

/-- What a cycle makes of the block's fields: one case per line of R90, of R77 and of the phases' rules. -/
inductive Move (inp : Input) (s : State) : State → Prop where
  | reset (h : inp.rst = true) : Move inp s s.resetBlock
  | wait (hr : inp.rst = false) (hp : s.phase = .idle) (hv : inp.cmdValid = false) : Move inp s s
  | illegal (hr : inp.rst = false) (hp : s.phase = .idle) (hv : inp.cmdValid = true) (e : DecodeError)
      (hd : decode inp.cmd = .error e) : Move inp s (s.raise .illegal)
  | notInit (hr : inp.rst = false) (hp : s.phase = .idle) (hv : inp.cmdValid = true) (i : Instr)
      (hd : decode inp.cmd = .ok i) (hi : i ≠ .init) (hn : s.initDone = false) :
      Move inp s (s.raise .notInitialised)
  | init (hr : inp.rst = false) (hp : s.phase = .idle) (hv : inp.cmdValid = true)
      (hd : decode inp.cmd = .ok .init) :
      Move inp s (((((s.enableOutputs.setCs true).setWr true).setAddr true true).setData 0x00).setInitFlags)
  | seta (hr : inp.rst = false) (hp : s.phase = .idle) (hv : inp.cmdValid = true) (hn : s.initDone = true)
      (a1 a0 : Bool) (hd : decode inp.cmd = .ok (.seta a1 a0)) : Move inp s (s.setAddr a1 a0)
  | setd (hr : inp.rst = false) (hp : s.phase = .idle) (hv : inp.cmdValid = true) (hn : s.initDone = true)
      (b : Byte) (hd : decode inp.cmd = .ok (.setd b)) : Move inp s (s.setData b)
  | xfer (hr : inp.rst = false) (hp : s.phase = .idle) (hv : inp.cmdValid = true) (hn : s.initDone = true)
      (hd : decode inp.cmd = .ok .xfer) : Move inp s (((s.setCs false).own .xfer 0).enter .xfA)
  | st0 (hr : inp.rst = false) (hp : s.phase = .idle) (hv : inp.cmdValid = true) (hn : s.initDone = true)
      (lsb msb : Byte) (hd : decode inp.cmd = .ok (.st0 lsb msb)) :
      Move inp s (((((((s.setCs true).setWr true).setAddr true true).setData controlWord).latchDivisor
        (divisorOf msb lsb)).own .st0 0).enter .xfS)
  | delay (hr : inp.rst = false) (hp : s.phase = .idle) (hv : inp.cmdValid = true) (hn : s.initDone = true)
      (hd : decode inp.cmd = .ok .delay) : Move inp s (s.enter .dl)
  | count (hr : inp.rst = false) (hp : s.phase = .xfS ∨ s.phase.inBusCycle = true ∨ s.phase = .dl)
      (hc : s.dlyCnt ≠ 0) : Move inp s s.countDown
  | exitS (hr : inp.rst = false) (hp : s.phase = .xfS) (hc : s.dlyCnt = 0) :
      Move inp s ((s.setCs false).enter .xfA)
  | exitA (hr : inp.rst = false) (hp : s.phase = .xfA) (hc : s.dlyCnt = 0) :
      Move inp s ((s.setWr false).enter .xfB)
  | exitB (hr : inp.rst = false) (hp : s.phase = .xfB) (hc : s.dlyCnt = 0) :
      Move inp s (((s.setWr true).emitWrite s.busWrite).enter .xfC)
  | exitC (hr : inp.rst = false) (hp : s.phase = .xfC) (hc : s.dlyCnt = 0) :
      Move inp s ((s.setCs true).enter .xfD)
  | nextByte (hr : inp.rst = false) (hp : s.phase = .xfD) (hc : s.dlyCnt = 0) (hq : s.seq = .st0)
      (hb : s.byteIdx < 2) : Move inp s s.advanceByte
  | finish (hr : inp.rst = false) (hp : s.phase = .xfD) (hc : s.dlyCnt = 0)
      (hq : ¬ (s.seq = .st0 ∧ s.byteIdx < 2)) : Move inp s (s.own .none 0).toIdle
  | exitDl (hr : inp.rst = false) (hp : s.phase = .dl) (hc : s.dlyCnt = 0) : Move inp s s.toIdle

/-- Dispatch of an accepted word is one of the moves of R77. -/
theorem move_of_acceptWord {inp : Input} {s t : State} (hr : inp.rst = false) (hp : s.phase = .idle)
    (hv : inp.cmdValid = true) (h : acceptWord inp.cmd s = .next t) : Move inp s t := by
  unfold acceptWord at h
  split at h
  · rename_i i hd
    by_cases hn : s.initDone = true
    · cases i <;>
        simp only [exec, execInit, execSeta, execSetd, execXfer, execSt0, execDelay, whenInitialised_done _ _ hn,
          Host.Outcome.next.injEq] at h <;> subst h
      · exact .init hr hp hv hd
      · exact .seta hr hp hv hn _ _ hd
      · exact .setd hr hp hv hn _ hd
      · exact .xfer hr hp hv hn hd
      · exact .st0 hr hp hv hn _ _ hd
      · exact .delay hr hp hv hn hd
    · simp only [Bool.not_eq_true] at hn
      cases i <;>
        simp only [exec, execInit, execSeta, execSetd, execXfer, execSt0, execDelay,
          whenInitialised_notDone _ _ hn, Host.Outcome.next.injEq] at h <;> subst h
      · exact .init hr hp hv hd
      all_goals exact .notInit hr hp hv _ hd (by simp) hn
  · rename_i e hd
    simp only [Host.Outcome.next.injEq] at h
    subst h
    exact .illegal hr hp hv e hd

/-- A timed phase counts down or makes its exit. -/
theorem move_of_timed {inp : Input} {s exit : State} (hr : inp.rst = false)
    (hp : s.phase = .xfS ∨ s.phase.inBusCycle = true ∨ s.phase = .dl) (hexit : s.dlyCnt = 0 → Move inp s exit) :
    Move inp s (s.timed exit) := by
  rcases timed_cases s exit with ⟨hc, h⟩ | ⟨hc, h⟩ <;> rw [h]
  · exact .count hr hp hc
  · exact hexit hc

/-- Every next state of R90 is one of the moves. -/
theorem move_of_blockStep {inp : Input} {s t : State} (h : blockStep inp s = .next t) : Move inp s t := by
  unfold blockStep at h
  split at h
  · rename_i hr
    simp only [Host.Outcome.next.injEq] at h
    exact h ▸ .reset hr
  · rename_i hr
    simp only [Bool.not_eq_true] at hr
    split at h
    · cases h
    · unfold phaseStep at h
      split at h <;> rename_i hp
      · unfold idleStep at h
        split at h
        · exact move_of_acceptWord hr hp ‹_› h
        · simp only [Host.Outcome.next.injEq] at h
          exact h ▸ .wait hr hp (by simpa using ‹¬ inp.cmdValid = true›)
      · simp only [Host.Outcome.next.injEq] at h
        exact h ▸ move_of_timed hr (.inl hp) (.exitS hr hp)
      · simp only [Host.Outcome.next.injEq] at h
        exact h ▸ move_of_timed hr (.inr (.inl (by simp [hp, Phase.inBusCycle]))) (.exitA hr hp)
      · simp only [Host.Outcome.next.injEq] at h
        exact h ▸ move_of_timed hr (.inr (.inl (by simp [hp, Phase.inBusCycle]))) (.exitB hr hp)
      · simp only [Host.Outcome.next.injEq] at h
        exact h ▸ move_of_timed hr (.inr (.inl (by simp [hp, Phase.inBusCycle]))) (.exitC hr hp)
      · simp only [Host.Outcome.next.injEq] at h
        refine h ▸ move_of_timed hr (.inr (.inl (by simp [hp, Phase.inBusCycle]))) fun hc => ?_
        split
        · exact .nextByte hr hp hc (by simp_all) (by simp_all)
        · exact .finish hr hp hc ‹_›
      · simp only [Host.Outcome.next.injEq] at h
        exact h ▸ move_of_timed hr (.inr (.inr hp)) (.exitDl hr hp)
      · cases h

/-- A step is a block step with the clock edge around it. -/
theorem step_eq_next_iff {s u : State} :
    step s = .next u ↔ ∃ t, blockStep s.currentInput s = .next t ∧ u = t.nextCycle (s.nextPit t) := by
  unfold step cycleStep
  cases h : blockStep s.currentInput s <;> simp [eq_comm]

/-- Everything a step can do: a move of the block, then the clock edge. -/
theorem move_of_step {s u : State} (h : step s = .next u) :
    ∃ t, Move s.currentInput s t ∧ u = t.nextCycle (s.nextPit t) := by
  obtain ⟨t, ht, rfl⟩ := step_eq_next_iff.1 h
  exact ⟨t, move_of_blockStep ht, rfl⟩

/-- No move touches the inputs, the cycle number, the configuration or the 8254: only the clock edge does. -/
theorem Move.keeps_surroundings {inp : Input} {s t : State} (h : Move inp s t) :
    t.inputs = s.inputs ∧ t.cycle = s.cycle ∧ t.cfg = s.cfg ∧ t.pit = s.pit := by
  cases h <;> simp [State.advanceByte]

/-- Every command answers a next state, in every state: none faults or is refused. -/
theorem exec_answers_next (i : Instr) (s : State) : ∃ t, exec i s = .next t := by
  cases hn : s.initDone <;> cases i <;>
    simp [exec, execInit, execSeta, execSetd, execXfer, execSt0, execDelay, whenInitialised, hn]

/-- With `rst = 0` and no unreachable encoding, the block's step answers a next state. -/
theorem blockStep_answers_next {inp : Input} {s : State} (h : inp.rst = true ∨ s.unreachable = false) :
    ∃ t, blockStep inp s = .next t := by
  unfold blockStep
  split
  · exact ⟨_, rfl⟩
  · rename_i hr
    have hu : s.unreachable = false := h.resolve_left hr
    have hp := ((unreachable_eq_false s).1 hu).1
    rw [if_neg (by simp [hu])]
    unfold phaseStep
    cases hphase : s.phase <;> simp_all
    unfold idleStep acceptWord
    split
    · split
      · exact exec_answers_next _ s
      · exact ⟨_, rfl⟩
    · exact ⟨_, rfl⟩

/-- A run of one more cycle is a step and then the rest of the run. -/
theorem run_succ_of_step {n : Nat} {s t : State} (h : step s = .next t) :
    Host.Core.run Sys2Proof.core (n + 1) s = Host.Core.run Sys2Proof.core n t := by
  have : Sys2Proof.core.step s = .next t := h
  simp only [Host.Core.run, this]

end Sys2Proof.Machine
end

