-- ==== Sys2Proof/Laws/Run.lean ====
section
/-! SUPPORT. Runs of several cycles: how they are built from steps, and how the inputs move along. -/

namespace Sys2Proof.Machine

variable {s t u : State}

theorem reaches_zero : reaches 0 s t ↔ s = t := by
  constructor
  · intro h
    exact Host.Outcome.next.inj h
  · rintro rfl
    rfl

theorem reaches_of_step {n : Nat} (h : step s = .next t) : reaches (n + 1) s u ↔ reaches n t u := by
  unfold reaches
  rw [run_succ_of_step h]

/-- A run that answers a next state makes its first step. -/
theorem reaches_succ {n : Nat} : reaches (n + 1) s u ↔ ∃ t, step s = .next t ∧ reaches n t u := by
  constructor
  · intro h
    cases hs : step s with
    | next t => exact ⟨t, rfl, (reaches_of_step hs).1 h⟩
    | fault f =>
      have hc : Sys2Proof.core.step s = .fault f := hs
      simp only [reaches, Host.Core.run, hc] at h
      cases h
    | refused r =>
      have hc : Sys2Proof.core.step s = .refused r := hs
      simp only [reaches, Host.Core.run, hc] at h
      cases h
  · rintro ⟨t, hs, h⟩
    exact (reaches_of_step hs).2 h

theorem reaches_trans {m n : Nat} (h1 : reaches m s t) (h2 : reaches n t u) : reaches (m + n) s u := by
  induction m generalizing s with
  | zero => rw [reaches_zero.1 h1, Nat.zero_add]; exact h2
  | succ m ih =>
    obtain ⟨v, hv, h⟩ := reaches_succ.1 h1
    rw [Nat.succ_add]
    exact reaches_succ.2 ⟨v, hv, ih h⟩

theorem currentInput_eq_inputAt (s : State) : s.currentInput = s.inputAt 0 := by
  cases h : s.inputs <;> simp [State.currentInput, State.inputAt, h]

/-- What a step leaves of everything outside the block: the inputs move on by one cycle. -/
theorem step_surroundings (h : step s = .next t) :
    t.inputs = s.inputs.tail ∧ t.cycle = s.cycle + 1 ∧ t.cfg = s.cfg := by
  obtain ⟨v, hm, rfl⟩ := move_of_step h
  obtain ⟨h1, h2, h3, _⟩ := hm.keeps_surroundings
  simp [h1, h2, h3]

theorem inputAt_of_step (h : step s = .next t) (k : Nat) : t.inputAt k = s.inputAt (k + 1) := by
  unfold State.inputAt
  rw [(step_surroundings h).1]
  cases s.inputs <;> simp

theorem noReset_of_step {n : Nat} (h : step s = .next t) (hn : s.noReset (n + 1)) : t.noReset n := by
  intro k hk
  rw [inputAt_of_step h]
  exact hn (k + 1) (by omega)

/-- A cycle in which the block's step answers `t` is one clock cycle to `t`. -/
theorem clocksTo_of_blockStep (h : blockStep s.currentInput s = .next t) : clocksTo s t := by
  have hk := (move_of_blockStep h).keeps_surroundings
  unfold clocksTo step cycleStep
  rw [h]
  simp [State.nextCycle, hk]

end Sys2Proof.Machine
end

