-- ==== Sys2Proof/Tests/Slice0.lean ====
section
/-! SUPPORT. Tests: the checks of WellFormed.lean and Config.lean refuse ill-formed terms, words written out from the spec
decode as it says, single steps agree with 95_test_vectors.md, and every statement's hypotheses are met by a concrete
state. -/

namespace Sys2Proof.Tests

open Sys2Proof.Machine

/-! ### Ill-formed terms are refused -/

/-- Parameters with N_DLY = 4 and a 2-bit counter (95_test_vectors.md V6: "refused"). -/
def narrow : Params := { Params.smallest with nDly := 4, wDly := 2 }

theorem test_delay_zero_refused : ({ Params.smallest with nDly := 0 } : Params).wellFormed = false := by decide +kernel
theorem test_narrow_counter_refused : narrow.wellFormed = false := by decide +kernel
theorem test_counter_width_two_accepted :
    ({ Params.smallest with nDly := 2, wDly := 2 } : Params).wellFormed = true := by decide +kernel
theorem test_equal_pins_refused : ({ Params.smallest with pinWr := 0 } : Params).wellFormed = false := by decide +kernel
theorem test_pin_eight_refused : ({ Params.smallest with pinA1 := 8 } : Params).wellFormed = false := by decide +kernel
theorem test_stopped_clock_refused : ({ Params.smallest with fClk := 0 } : Params).wellFormed = false := by
  decide +kernel
theorem test_negative_time_refused : ({ Params.smallest with tWrPulse := -1 } : Params).wellFormed = false := by
  decide +kernel
theorem test_seta_four_refused : AsmLine.wellFormed (.seta 4) = false := by decide
theorem test_setd_256_refused : AsmLine.wellFormed (.setd 256) = false := by decide
theorem test_st0_lsb_256_refused : AsmLine.wellFormed (.st0 256 0) = false := by decide
theorem test_st0_msb_256_refused : AsmLine.wellFormed (.st0 0 256) = false := by decide
theorem test_word_over_20_bits_refused : AsmLine.wellFormed (.word 0x100000) = false := by decide
theorem test_wrbyte_addr_refused : AsmLine.wellFormed (.wrbyte 4 0) = false := by decide
theorem test_wrbyte_byte_refused : AsmLine.wellFormed (.wrbyte 0 256) = false := by decide
theorem test_wrctrl_256_refused : AsmLine.wellFormed (.wrctrl 256) = false := by decide
theorem test_wrt0_256_refused : AsmLine.wellFormed (.wrt0 256) = false := by decide
theorem test_settimer0_65536_refused : AsmLine.wellFormed (.settimer0 65536) = false := by decide
theorem test_st0_slow_refused : AsmLine.wellFormed (.st0Slow 0 256) = false := by decide
/-- Each clause of `legal` with a bit too many (95_test_vectors.md V1). -/
theorem test_illegal_words :
    legal 0x1 0x0001 = false ∧ legal 0x2 0x0004 = false ∧ legal 0x3 0x0100 = false ∧ legal 0x4 0x0001 = false ∧
    legal 0x6 0x0001 = false ∧ legal 0x0 0x0000 = false ∧ legal 0x7 0x0000 = false ∧ legal 0xF 0x1234 = false := by
  decide

/-! ### Words of 95_test_vectors.md V1, written out bit by bit -/

theorem test_decode_init : decode 0b00010000000000000000 = .ok .init := by decide
theorem test_decode_seta : decode 0b00100000000000000010 = .ok (.seta true false) := by decide
theorem test_decode_setd : decode 0b00110000000001011010 = .ok (.setd 0x5A) := by decide
theorem test_decode_xfer : decode 0b01000000000000000000 = .ok .xfer := by decide
theorem test_decode_st0 : decode 0b01010001001000110100 = .ok (.st0 0x34 0x12) := by decide
theorem test_decode_delay : decode 0b01100000000000000000 = .ok .delay := by decide
theorem test_decode_reserved :
    decode 0xF1234 = .error (.reservedOpcode 15) ∧ decode 0x40001 = .error (.reservedBits "XFER") := by decide
theorem test_decode_too_wide : decodeTableWord 24 0x110000 = none := by decide
theorem test_table_word : decodeTableWord 24 0x51234 = some (.st0 0x34 0x12) := by decide

/-! ### Single steps -/

/-- A configuration with N_DLY = 1. -/
def cfg1 : Config := ⟨Params.smallest, Params.smallest_wellFormed⟩

/-- The reset state of that configuration. -/
def fresh : State := State.resetOf cfg1

/-- The state after INIT (95_test_vectors.md, conventions). -/
def ready : State := { fresh with oe := true, initDone := true }

/-- The host presents a word in this cycle. -/
def presenting (s : State) (w : CommandWord) : State := s.presentWord w

/-- `rst = 1` in this cycle. -/
def resetting (s : State) : State :=
  { s with inputs := [{ rst := true, cmdValid := true, cmd := 0x51234, foreignDrive := false }] }

/-- The last cycle of a timed phase in a bus cycle of the given owner. -/
def inPhase (p : Phase) (q : Seq) (i : BitVec 2) (csN wrN : Bool) : State :=
  { ready with phase := p, seq := q, byteIdx := i, csN := csN, wrN := wrN, div := 0x1234 }

/-- XF_B's last cycle in an XFER of 0x34 to Timer 0 (95_test_vectors.md V4a, cycle 6). -/
def strobing : State := { inPhase .xfB .xfer 0 false false with a1 := false, a0 := false, d := 0x34 }

/-- A field of the next state. -/
def field {α : Type} (f : State → α) : Host.Outcome State Fault Refusal → Option α
  | .next t => some (f t)
  | .fault _ => none
  | .refused _ => none

/-- 95_test_vectors.md V2, first row. -/
theorem test_init_status : field State.status (step (presenting fresh 0x10000)) = some 0b0010 := by decide
/-- V2, second row: the address goes back to 0b11 and the data to 0. -/
theorem test_init_lines :
    field (fun t => (t.a1, t.a0, t.d)) (execInit { ready with a1 := false, a0 := false, d := 0x5A }) =
      some (true, true, 0x00) := by decide
/-- V3: `seta 2` gives A1 = 1, A0 = 0. -/
theorem test_seta_two : field (fun t => (t.a1, t.a0)) (step (presenting ready 0x20002)) = some (true, false) := by
  decide
/-- V1: SETA before INIT changes nothing but the status. -/
theorem test_seta_before_init :
    field (fun t => (t.a1, t.a0, t.status)) (step (presenting fresh 0x20000)) = some (true, true, 0b1000) := by decide
/-- V3. -/
theorem test_setd_ff : field State.d (step (presenting ready 0x300FF)) = some 0xFF := by decide
/-- V4a, cycle 4. -/
theorem test_xfer_accepted :
    field (fun t => (t.phase, t.dlyCnt, t.csN, t.wrN, t.status)) (step (presenting ready 0x40000)) =
      some (.xfA, 0, false, true, 0b0011) := by decide
/-- V4a, cycle 6: the event, and WR# high in cycle 7. -/
theorem test_strobe_exit :
    field (fun t => (t.phase, t.csN, t.wrN, t.events)) (step strobing) =
      some (.xfC, false, true, [⟨0b00, 0x34⟩]) := by decide
/-- V5a, cycle 2. -/
theorem test_st0_accepted :
    field (fun t => ((t.phase, t.dlyCnt, t.seq), (t.a1, t.a0, t.d, t.div))) (step (presenting ready 0x51234)) =
      some ((.xfS, 0, .st0), (true, true, 0x36, 0x1234)) := by decide
/-- V5a, cycles 13 to 14: the MSB follows the LSB. -/
theorem test_st0_next_byte :
    field (fun t => (t.phase, t.a1, t.a0, t.d, t.byteIdx)) (step (inPhase .xfD .st0 1 true true)) =
      some (.xfS, false, false, 0x12, 2) := by decide
/-- V6, first row. -/
theorem test_delay_accepted : field (fun t => (t.phase, t.dlyCnt)) (step (presenting ready 0x60000)) = some (.dl, 0) := by
  decide
/-- V1: an illegal word before INIT sets `ERR_ILL` only (R82). -/
theorem test_illegal_before_init : field State.status (step (presenting fresh 0x70000)) = some 0b0100 := by decide
/-- V8: reset takes priority over the XF_B exit. -/
theorem test_reset_in_strobe :
    field (fun t => (t.oe, t.status, t.phase, t.events)) (step (resetting strobing)) =
      some (false, 0b0000, .idle, []) := by decide
theorem test_unreachable_faults : field State.d (step { ready with byteIdx := 3 }) = none := by decide
theorem test_first_word_after_reset :
    field (fun t => t.errNoInit) (step (State.reset.withFetchWord 24 0x40000)) = some true := by decide
/-- R80, R81, 95_test_vectors.md P2. -/
theorem test_assemble_text :
    assembleText "  seta ctrl ; the control register".toList = .ok [0x20003] ∧
    assembleText "st0 0x34, 0b10010".toList = .ok [0x51234] := by decide
theorem test_assemble_errors :
    assembleText "seta 4".toList = .error .operandOutOfRange ∧ assembleText "INIT".toList = .error .syntaxError := by
  decide

/-! ### The hypotheses of the statements are met -/

theorem fresh_inv : fresh.Inv := by constructor <;> decide

theorem presenting_accepts (w : CommandWord) : (presenting ready w).acceptsWord w := ⟨rfl, rfl⟩

theorem ready_inv : ready.Inv := by constructor <;> decide

theorem presenting_inv (w : CommandWord) : (presenting ready w).Inv :=
  ⟨ready_inv.reachable, ready_inv.idle, ready_inv.delaying, ready_inv.owned, ready_inv.xferByte, ready_inv.counter,
    ready_inv.chipSelect, ready_inv.writeStrobe, ready_inv.untouched, ready_inv.enabled, ready_inv.noInitError⟩

/-- A state whose list of inputs is one quiet cycle, or none, sees no reset and no other agent. -/
theorem quiet_noReset (w : CommandWord) (n : Nat) : (presenting ready w).noReset n := by
  intro k _
  cases k <;> rfl

theorem quiet_ownBus (w : CommandWord) (n : Nat) : (presenting ready w).ownBus n := by
  intro k _
  cases k <;> rfl

theorem witness_RstLeavesTheResetState : (resetting strobing).currentInput.rst = true := by decide

theorem witness_LaunchRefusesATruncatingCounter :
    2 ^ narrow.wDly - 1 < 2 * narrow.nDly - 1 ∧ narrow.wellFormed = false ∧ Params.smallest.wellFormed = true :=
  ⟨by decide, by decide +kernel, Params.smallest_wellFormed⟩

theorem witness_command_results : ready.initDone = true := rfl

theorem witness_CommandBeforeInitOnlySetsErrNoInit : Instr.xfer ≠ .init ∧ fresh.initDone = false := by decide

theorem witness_StepRunsTheDecodedCommand :
    (presenting ready 0x40000).acceptsWord 0x40000 ∧ (presenting ready 0x40000).unreachable = false ∧
      decode 0x40000 = .ok .xfer := ⟨presenting_accepts _, by decide, by decide⟩

theorem witness_FetchWordIsRunNext : decodeTableWord 24 0x60000 = some .delay := by decide

theorem witness_IllegalWordOnlySetsErrIll :
    (presenting ready 0x20004).acceptsWord 0x20004 ∧ (presenting ready 0x20004).unreachable = false ∧
      legal (opField 0x20004) (argField 0x20004) = false := ⟨presenting_accepts _, by decide, by decide⟩

theorem witness_IdleWithNoCommandChangesNothing :
    ready.phase = .idle ∧ ready.unreachable = false ∧ ready.currentInput.rst = false ∧
      ready.currentInput.cmdValid = false := by decide

theorem witness_BusyStepIgnoresTheCommandPort : strobing.phase ≠ .idle := by decide

/-- A phase of two cycles (XF_B) and one of one cycle (XF_S), both just entered. -/
theorem witness_TimedPhaseLastsItsLength :
    (({ strobing with dlyCnt := 1 } : State).phase.inBusCycle = true ∧
      ({ strobing with dlyCnt := 1 } : State).dlyCnt = phaseLength cfg1 .xfB - 1 ∧
      ({ strobing with dlyCnt := 1 } : State).unreachable = false ∧
      ({ strobing with dlyCnt := 1 } : State).noReset (phaseLength cfg1 .xfB)) ∧
    ((inPhase .xfS .st0 0 true true).dlyCnt = phaseLength cfg1 .xfS - 1 ∧
      (inPhase .xfS .st0 0 true true).unreachable = false) :=
  ⟨⟨by decide, by decide, by decide, fun _ _ => rfl⟩, by decide⟩

theorem witness_SetupAndSelectSteps :
    (inPhase .xfS .st0 0 true true).unreachable = false ∧
    (inPhase .xfS .st0 0 true true).currentInput.rst = false ∧ (inPhase .xfS .st0 0 true true).phase = .xfS ∧
    (inPhase .xfA .xfer 0 false true).unreachable = false ∧ (inPhase .xfA .xfer 0 false true).phase = .xfA := by decide

theorem witness_StrobeStepEmitsTheWrite :
    strobing.unreachable = false ∧ strobing.currentInput.rst = false ∧ strobing.phase = .xfB := by decide

/-- One state for each clause: counting, the exits of XF_C and DL, and XF_D at each byte. -/
theorem witness_HoldRecoveryAndDelaySteps :
    (({ inPhase .dl .none 0 true true with dlyCnt := 1 } : State).dlyCnt ≠ 0 ∧
      ({ inPhase .dl .none 0 true true with dlyCnt := 1 } : State).unreachable = false) ∧
    (inPhase .xfC .xfer 0 false true).dlyCnt = 0 ∧ (inPhase .xfC .xfer 0 false true).unreachable = false ∧
    (inPhase .xfD .st0 0 true true).unreachable = false ∧ (inPhase .xfD .st0 1 true true).unreachable = false ∧
    ((inPhase .xfD .st0 2 true true).unreachable = false ∧
      ¬ ((inPhase .xfD .st0 2 true true).seq = .st0 ∧ (inPhase .xfD .st0 2 true true).byteIdx.toNat < 2)) ∧
    (inPhase .dl .none 0 true true).unreachable = false ∧ (inPhase .dl .none 0 true true).dlyCnt = 0 := by decide

/-- The strobing state meets the invariant, so statements about a step have a busy state too. -/
theorem strobing_inv : strobing.Inv := by constructor <;> decide

theorem step_of_strobing : ∃ t, step strobing = .next t := ⟨_, rfl⟩

theorem step_of_presenting : ∃ t, step (presenting ready 0x40000) = .next t := ⟨_, rfl⟩

/-- A cycle with the given word on the port and no reset is one of a state of the invariant from which a step goes on. -/
def Goes (s : State) : Prop := s.Inv ∧ s.currentInput.rst = false ∧ ∃ t, step s = .next t

theorem presenting_goes (w : CommandWord) : Goes (presenting ready w) := by
  obtain ⟨t, ht⟩ := blockStep_answers_next (inp := (presenting ready w).currentInput) (s := presenting ready w)
    (.inr (presenting_inv w).reachable)
  exact ⟨presenting_inv w, rfl, _, step_eq_next_iff.2 ⟨t, ht, rfl⟩⟩

/-- The last cycle of each timed phase: XF_S, XF_A, XF_B, XF_C, XF_D before another byte and at the end, and DL. -/
def exits : List State :=
  [inPhase .xfS .st0 0 true true, inPhase .xfA .xfer 0 false true, strobing, inPhase .xfC .xfer 0 false true,
    inPhase .xfD .st0 1 true true, inPhase .xfD .st0 2 true true, inPhase .dl .none 0 true true]

/-- The clause of a reset, the one of a running counter, and the one of each phase's exit. -/
theorem witness_PhaseSuccessorsAreTheTable_timed :
    ((resetting strobing).Inv ∧ (resetting strobing).currentInput.rst = true ∧
      ∃ t, step (resetting strobing) = .next t) ∧
    (Goes { strobing with dlyCnt := 1 } ∧ strobing.phase ≠ .idle ∧ ({ strobing with dlyCnt := 1 } : State).dlyCnt ≠ 0) ∧
    (∀ s ∈ exits, Goes s ∧ s.dlyCnt = 0) ∧
    exits.map State.phase = [.xfS, .xfA, .xfB, .xfC, .xfD, .xfD, .dl] ∧
    exits.map (fun s => decide (s.seq = .st0 ∧ s.byteIdx < 2)) = [true, false, false, false, true, false, false] := by
  refine ⟨⟨by constructor <;> decide, by decide, _, rfl⟩,
    ⟨⟨by constructor <;> decide, by decide, _, rfl⟩, by decide, by decide⟩, ?_, by decide, by decide⟩
  intro s hs
  simp only [exits, List.mem_cons, List.not_mem_nil, or_false] at hs
  rcases hs with rfl | rfl | rfl | rfl | rfl | rfl | rfl <;>
    exact ⟨⟨by constructor <;> decide, by decide, _, rfl⟩, by decide⟩

/-- In IDLE: XFER, ST0 and DELAY accepted after INIT, and each way to stay: no word, no INIT yet, an illegal word and a
command with no bus cycle. -/
theorem witness_PhaseSuccessorsAreTheTable_idle :
    (Goes (presenting ready 0x40000) ∧ (presenting ready 0x40000).acceptsWord 0x40000 ∧
      decode 0x40000 = .ok .xfer) ∧
    (Goes (presenting ready 0x51234) ∧ (presenting ready 0x51234).acceptsWord 0x51234 ∧
      decode 0x51234 = .ok (.st0 0x34 0x12)) ∧
    (Goes (presenting ready 0x60000) ∧ (presenting ready 0x60000).acceptsWord 0x60000 ∧
      decode 0x60000 = .ok .delay) ∧
    (Goes ready ∧ ready.phase = .idle ∧ ready.currentInput.cmdValid = false) ∧
    (Goes (presenting fresh 0x40000) ∧ (presenting fresh 0x40000).phase = .idle ∧
      (presenting fresh 0x40000).initDone = false) ∧
    (Goes (presenting ready 0x70000) ∧ (presenting ready 0x70000).phase = .idle ∧
      decode 0x70000 = .error (.reservedOpcode 7)) ∧
    (Goes (presenting ready 0x300FF) ∧ (presenting ready 0x300FF).phase = .idle ∧
      decode 0x300FF = .ok (.setd 0xFF)) :=
  ⟨⟨presenting_goes _, presenting_accepts _, by decide⟩,
    ⟨presenting_goes _, presenting_accepts _, by decide⟩,
    ⟨presenting_goes _, presenting_accepts _, by decide⟩,
    ⟨⟨ready_inv, by decide, _, rfl⟩, by decide⟩,
    ⟨⟨by constructor <;> decide, by decide, _, rfl⟩, by decide⟩,
    ⟨⟨presenting_inv _, by decide, _, rfl⟩, by decide⟩,
    ⟨presenting_goes _, by decide⟩⟩

/-- The first and the last cycle of the schedule: `j = 1` and `j = 5*N_DLY + 1 = 6`. -/
theorem witness_XferRunsItsSchedule :
    (presenting ready 0x40000).Inv ∧ (presenting ready 0x40000).initDone = true ∧
      (presenting ready 0x40000).acceptsWord 0x40000 ∧ 6 = 5 * (presenting ready 0x40000).cfg.nDly + 1 ∧
      (presenting ready 0x40000).noReset 1 ∧ (presenting ready 0x40000).noReset 6 :=
  ⟨presenting_inv _, rfl, presenting_accepts _, rfl, quiet_noReset _ _, quiet_noReset _ _⟩

/-- Twelve cycles of XFER words, which is `2*(5*N_DLY + 1)`. -/
def repeating : State :=
  { ready with inputs := List.replicate 12 { rst := false, cmdValid := true, cmd := 0x40000, foreignDrive := false } }

theorem witness_BackToBackXfersAreTwoWrites :
    repeating.Inv ∧ repeating.initDone = true ∧ repeating.phase = .idle ∧
      ∀ k, k < 2 * (5 * repeating.cfg.nDly + 1) →
        (repeating.inputAt k).rst = false ∧ (repeating.inputAt k).cmdValid = true ∧
          (repeating.inputAt k).cmd = 0x40000 :=
  ⟨by constructor <;> decide, rfl, rfl, by decide⟩

/-- The first and the last cycle of the schedule: `j = 1` and `j = 15*N_DLY + 4 = 19`. -/
theorem witness_St0RunsItsSchedule :
    (presenting ready 0x51234).Inv ∧ (presenting ready 0x51234).initDone = true ∧
      (presenting ready 0x51234).acceptsWord (encode (.st0 0x34 0x12)) ∧
      19 = 15 * (presenting ready 0x51234).cfg.nDly + 4 ∧ (presenting ready 0x51234).noReset 1 ∧
      (presenting ready 0x51234).noReset 19 :=
  ⟨presenting_inv _, rfl, ⟨by decide, by decide⟩, rfl, quiet_noReset _ _, quiet_noReset _ _⟩

theorem witness_St0EmitsExactlyThreeWrites :
    (presenting ready 0x51234).Inv ∧ (presenting ready 0x51234).initDone = true ∧
      (presenting ready 0x51234).acceptsWord (encode (.st0 0x34 0x12)) ∧
      (presenting ready 0x51234).noReset (15 * (presenting ready 0x51234).cfg.nDly + 4) :=
  ⟨presenting_inv _, rfl, ⟨by decide, by decide⟩, quiet_noReset _ _⟩

/-- A command with effect, an illegal word and a command before INIT. -/
theorem witness_CommandOccupiesTheStatedCycles :
    ((presenting ready 0x60000).Inv ∧ (presenting ready 0x60000).acceptsWord 0x60000 ∧
      (presenting ready 0x60000).noReset (wordOccupancy (presenting ready 0x60000) 0x60000)) ∧
    ((presenting ready 0x70000).Inv ∧ (presenting ready 0x70000).acceptsWord 0x70000) ∧
    ((presenting fresh 0x40000).Inv ∧ (presenting fresh 0x40000).acceptsWord 0x40000) :=
  ⟨⟨presenting_inv _, presenting_accepts _, quiet_noReset _ _⟩, ⟨presenting_inv _, presenting_accepts _⟩,
    ⟨by constructor <;> decide, ⟨rfl, rfl⟩⟩⟩

theorem witness_BlockReturnsToIdle : strobing.Inv ∧ strobing.noReset (15 * strobing.cfg.nDly + 3) :=
  ⟨strobing_inv, fun _ _ => rfl⟩

theorem witness_EveryStepKeepsTheInvariant : strobing.Inv ∧ ∃ t, step strobing = .next t :=
  ⟨strobing_inv, step_of_strobing⟩

theorem witness_NoStepStopsUnderTheInvariant : fresh.Inv := fresh_inv

theorem witness_DelayCounterFitsItsWidth : ({ strobing with dlyCnt := 1 } : State).Inv := by constructor <;> decide

/-- ST0 with its LSB on the bus. -/
def loading : State := { inPhase .xfB .st0 1 false false with a1 := false, a0 := false, d := 0x34 }

theorem witness_EveryStepKeepsSt0ByteOnTheBus :
    loading.Inv ∧ loading.st0Bus ∧ loading.seq = .st0 ∧ ∃ t, step loading = .next t := by
  refine ⟨by constructor <;> decide, ?_, rfl, ⟨_, rfl⟩⟩
  intro _ _
  decide

/-- XF_C's last cycle: CS# is low before the step and high after it, with `j = 0` below `N_DLY`. -/
theorem witness_AddressAndDataStableAroundTheStrobe :
    (inPhase .xfC .xfer 0 false true).Inv ∧
      (∃ t, step (inPhase .xfC .xfer 0 false true) = .next t ∧ t.csN = true ∧ t.noReset 0) ∧
      (inPhase .xfC .xfer 0 false true).currentInput.rst = false ∧ (inPhase .xfC .xfer 0 false true).csN = false ∧
      0 < (inPhase .xfC .xfer 0 false true).cfg.nDly :=
  ⟨by constructor <;> decide, ⟨_, rfl, rfl, fun _ h => absurd h (Nat.not_lt_zero _)⟩, by decide, by decide, by decide⟩

/-- A step that changes CS#, one that changes WR#, the first INIT, and a reset. -/
theorem witness_EdgesAreSeparate :
    ((presenting ready 0x40000).Inv ∧ ∃ t, step (presenting ready 0x40000) = .next t ∧
      t.csN ≠ (presenting ready 0x40000).csN) ∧
    (strobing.Inv ∧ ∃ t, step strobing = .next t ∧ t.wrN ≠ strobing.wrN) ∧
    ((presenting fresh 0x10000).Inv ∧ ∃ t, step (presenting fresh 0x10000) = .next t ∧
      t.oe ≠ (presenting fresh 0x10000).oe) ∧
    ((resetting strobing).Inv ∧ (resetting strobing).currentInput.rst = true ∧
      ∃ t, step (resetting strobing) = .next t) :=
  ⟨⟨presenting_inv _, _, rfl, by decide⟩, ⟨strobing_inv, _, rfl, by decide⟩,
    ⟨by constructor <;> decide, _, rfl, by decide⟩, ⟨by constructor <;> decide, by decide, _, rfl⟩⟩

theorem witness_OnlyTheStrobeExitEmits :
    ((∃ t, step strobing = .next t) ∧ strobing.currentInput.rst = false ∧ strobing.phase = .xfB ∧
      strobing.dlyCnt = 0) ∧
    ((∃ t, step ready = .next t) ∧ ready.phase ≠ .xfB) := ⟨⟨⟨_, rfl⟩, by decide⟩, ⟨_, rfl⟩, by decide⟩

/-- Every clause: a reset, INIT, an illegal word, a command before INIT, one after it, and no word accepted. -/
theorem witness_FlagsFollowTheirRules :
    ((∃ t, step (resetting strobing) = .next t) ∧ (resetting strobing).currentInput.rst = true) ∧
    ((∃ t, step (presenting fresh 0x10000) = .next t) ∧ (presenting fresh 0x10000).acceptsWord 0x10000 ∧
      decode 0x10000 = .ok .init) ∧
    ((∃ t, step (presenting ready 0x70000) = .next t) ∧ (presenting ready 0x70000).acceptsWord 0x70000 ∧
      legal (opField 0x70000) (argField 0x70000) = false) ∧
    ((∃ t, step (presenting fresh 0x40000) = .next t) ∧ (presenting fresh 0x40000).acceptsWord 0x40000 ∧
      (presenting fresh 0x40000).initDone = false) ∧
    ((∃ t, step (presenting ready 0x40000) = .next t) ∧ (presenting ready 0x40000).acceptsWord 0x40000 ∧
      (presenting ready 0x40000).initDone = true ∧ legal (opField 0x40000) (argField 0x40000) = true) ∧
    ((∃ t, step strobing = .next t) ∧ strobing.currentInput.rst = false ∧
      strobing.accepts strobing.currentInput = false) :=
  ⟨⟨⟨_, rfl⟩, by decide⟩, ⟨⟨_, rfl⟩, ⟨rfl, rfl⟩, by decide⟩, ⟨⟨_, rfl⟩, presenting_accepts _, by decide⟩,
    ⟨⟨_, rfl⟩, ⟨rfl, rfl⟩, by decide⟩, ⟨⟨_, rfl⟩, presenting_accepts _, by decide⟩, ⟨_, rfl⟩, by decide⟩

theorem witness_OutputsEnabledByInitOnly : ∃ t, step (presenting fresh 0x10000) = .next t := ⟨_, rfl⟩

/-- One state for each way the data changes: INIT, SETD, ST0 and ST0's byte advance, to the LSB and to the MSB. -/
theorem witness_DataBusChangesOnlyWhileIdleLines :
    ∀ s ∈ [{ presenting ready 0x10000 with d := 0x5A }, presenting ready 0x300FF, presenting ready 0x51234,
        inPhase .xfD .st0 0 true true, inPhase .xfD .st0 1 true true],
      s.Inv ∧ s.currentInput.rst = false ∧ ∃ t, step s = .next t ∧ t.d ≠ s.d := by
  intro s hs
  simp only [List.mem_cons, List.not_mem_nil, or_false] at hs
  rcases hs with rfl | rfl | rfl | rfl | rfl <;>
    exact ⟨by constructor <;> decide, by decide, _, rfl, by decide⟩

theorem witness_EncodeOfDecode : decode 0x5FFFF = .ok (.st0 0xFF 0xFF) := by decide

theorem witness_DecodesExactlyTheLegalWords :
    decode 0x20003 = .ok (.seta true true) ∧ legal (opField 0x30100) (argField 0x30100) = false := by decide

theorem witness_PinsCarryTheLatchesWhenEnabled : ready.oe = true ∧ fresh.oe = false := by decide

theorem witness_ControlPortCarriesOnlyTheFourLines :
    7 ∉ [cfg1.params.pinCs, cfg1.params.pinWr, cfg1.params.pinA0, cfg1.params.pinA1] := by decide

theorem witness_CalibratedSt0ProgramsTimer0 :
    (presenting ready 0x51234).Inv ∧ (presenting ready 0x51234).initDone = true ∧
      (presenting ready 0x51234).acceptsWord (encode (.st0 0x34 0x12)) ∧
      (presenting ready 0x51234).noReset (15 * (presenting ready 0x51234).cfg.nDly + 4) ∧
      (presenting ready 0x51234).ownBus (15 * (presenting ready 0x51234).cfg.nDly + 4) ∧
      cfg1.calibrated = true :=
  ⟨presenting_inv _, rfl, ⟨by decide, by decide⟩, quiet_noReset _ _, quiet_ownBus _ _, by decide +kernel⟩

/-- A configuration whose WR# pulse is too short: one second is asked for. -/
def uncalibrated : Config := ⟨{ Params.smallest with tWrPulse := 1 }, by decide +kernel⟩

/-- One state for each of the four disturbances. -/
theorem witness_DisturbedBusLeavesTimer0Free :
    ((∃ t, step fresh = .next t) ∧ fresh.oe = false) ∧
    (∃ t, step (resetting ready) = .next t ∧ t.oe = false) ∧
    ((∃ t, step { ready with inputs := [{ Input.quiet with foreignDrive := true }] } = .next t) ∧
      ({ ready with inputs := [{ Input.quiet with foreignDrive := true }] } : State).currentInput.foreignDrive = true) ∧
    (∃ t, step { strobing with cfg := uncalibrated } = .next t ∧
      t.events ≠ ({ strobing with cfg := uncalibrated } : State).events ∧ uncalibrated.calibrated = false) :=
  ⟨⟨⟨_, rfl⟩, rfl⟩, ⟨_, rfl, rfl⟩, ⟨⟨_, rfl⟩, rfl⟩, ⟨_, rfl, by decide, by decide +kernel⟩⟩

/-- The MSB of a triple about to be written, after the control word and the LSB. -/
def finishing : State :=
  { loading with byteIdx := 2, d := 0x12, events := [⟨0b11, 0x36⟩, ⟨0b00, 0x34⟩],
                 pit := { timer0 := .unspecified 0, other := 0, progress := .lsb 0x34, strobeDisturbed := false } }

theorem witness_OnlyACompleteTripleProgramsTimer0 :
    finishing.tripleRecorded ∧ ∃ t, step finishing = .next t ∧ t.events ≠ finishing.events :=
  ⟨⟨[], rfl⟩, _, rfl, by decide⟩

theorem witness_EveryStepKeepsTheTripleRecord : finishing.tripleRecorded ∧ ∃ t, step finishing = .next t :=
  ⟨⟨[], rfl⟩, _, rfl⟩

/-- Timer 0 programmed with a divisor, in a cycle after the free onset. -/
def running (v : Half) : State :=
  { ready with cycle := Config.onsetDelay 0 + 1,
               pit := { timer0 := .squareWave v 0, other := 0, progress := .start, strobeDisturbed := false } }

theorem witness_Timer0FrequencyIsClockOverDivisor :
    ((running 0x1234).pit.timer0 = .squareWave 0x1234 0 ∧ 0 + Config.onsetDelay 0 < (running 0x1234).cycle ∧
      (0x1234 : Half) ≠ 0 ∧ (running 0x1234).cfg.params.smallDivisor ≤ (0x1234 : Half).toNat) ∧
    ((running 0).pit.timer0 = .squareWave 0 0 ∧ 0 + Config.onsetDelay 0 < (running 0).cycle) := by
  have h : 0 + Config.onsetDelay 0 < Config.onsetDelay 0 + 1 := by omega
  exact ⟨⟨rfl, h, by decide, by decide⟩, rfl, h⟩

/-! ### A disturbed command (70_reset_and_hazards.md R212, 93 U7; log 27) -/

/-- The command of the first cycle, with another agent on the bus bits in the `j`-th cycle from it. -/
def disturbedAt (j : Nat) (w : CommandWord) : State :=
  { ready with inputs :=
      ({ rst := false, cmdValid := true, cmd := w, foreignDrive := decide (j = 0) } ::
        List.replicate (j - 1) Input.quiet) ++ List.replicate 1 { Input.quiet with foreignDrive := decide (j ≠ 0) } }

/-- A disturbance in XF_A is still known in XF_B. -/
theorem test_disturbance_is_remembered :
    field (fun t => t.pit.strobeDisturbed)
      (step { inPhase .xfA .st0 0 false true with inputs := [{ Input.quiet with foreignDrive := true }] }) =
      some true := by decide

/-- A state whose command was disturbed in an earlier cycle. -/
def disturbed (s : State) : State := { s with pit := { s.pit with strobeDisturbed := true } }

/-- The control word's own strobe was disturbed in an earlier cycle: it is not the first write of a triple. -/
theorem test_disturbed_control_word_is_no_start :
    field (fun t => (t.events, t.pit.progress))
      (step (disturbed { inPhase .xfB .st0 0 false false with d := 0x36 })) =
      some ([⟨0b11, 0x36⟩], .start) := by decide

/-- The MSB's strobe was disturbed in an earlier cycle: Timer 0 is a free value. -/
theorem test_disturbed_msb_programs_nothing :
    field (fun t => t.pit.timer0) (step (disturbed finishing)) = some (Config.timer0Draw (finishing.cycle + 1)) := rfl

/-- The first and the last cycle of an XFER and of an ST0 with N_DLY = 1, and one inside the first strobe. -/
theorem witness_DisturbedCommandIsNoPartOfATriple :
    (∀ j ∈ [0, 2, 5], (disturbedAt j 0x40000).Inv ∧ (disturbedAt j 0x40000).initDone = true ∧
      ((disturbedAt j 0x40000).inputAt j).foreignDrive = true ∧ (disturbedAt j 0x40000).acceptsWord 0x40000 ∧
      (disturbedAt j 0x40000).noReset (5 * cfg1.nDly + 1) ∧ j < 5 * cfg1.nDly + 1) ∧
    (∀ j ∈ [0, 2, 18], (disturbedAt j 0x51234).Inv ∧ (disturbedAt j 0x51234).initDone = true ∧
      ((disturbedAt j 0x51234).inputAt j).foreignDrive = true ∧
      (disturbedAt j 0x51234).acceptsWord (encode (.st0 0x34 0x12)) ∧
      (disturbedAt j 0x51234).noReset (15 * cfg1.nDly + 4) ∧ j < 15 * cfg1.nDly + 4) := by
  constructor <;> intro j hj <;> simp only [List.mem_cons, List.not_mem_nil, or_false] at hj <;>
    rcases hj with rfl | rfl | rfl <;>
    exact ⟨by constructor <;> decide, rfl, rfl, ⟨by decide, by decide⟩, by unfold State.noReset; decide, by decide⟩

/-- A disturbed command whose strobe ends in this step. -/
def spoiled : State :=
  { strobing with pit := { timer0 := Config.timer0Draw 3, other := 0, progress := .start, strobeDisturbed := true } }

theorem witness_EveryStepKeepsTheDisturbanceRecord :
    spoiled.disturbanceRecorded ∧ spoiled.pit.strobeDisturbed = true ∧ ∃ t, step spoiled = .next t :=
  ⟨⟨by decide, fun _ => ⟨rfl, 3, rfl⟩⟩, rfl, _, rfl⟩

/-! ### Ports and levels -/

theorem witness_DataPortCarriesTheDataLatch : ready.oe = true ∧ fresh.oe = false := by decide

/-- Driven and undisturbed, undriven, and driven by another agent too. -/
theorem witness_LevelsSeenAreTheLatchesOrFree :
    (ready.oe = true ∧ ready.currentInput.foreignDrive = false) ∧ fresh.oe = false ∧
      (disturbedAt 0 0x40000).currentInput.foreignDrive = true := by decide

end Sys2Proof.Tests
end

section
/-! The invariant of R34: what it says of a waiting, a busy and an initialised block, one builder for each place of the
sequencer, and that every move keeps it (O30, O29). -/

namespace Sys2Proof.Machine

variable {inp : Input} {s t : State}

/-! ### What the invariant gives -/

/-- INIT has run and no flag contradicts it. -/
def State.Initialised (s : State) : Prop := s.initDone = true ∧ s.oe = true ∧ s.errNoInit = false

theorem State.Inv.initialised (hi : s.Inv) (hn : s.initDone = true) : s.Initialised := by
  refine ⟨hn, hi.enabled.trans hn, ?_⟩
  have := hi.noInitError
  simpa [hn] using this

theorem State.Inv.initialised_of_busy (hi : s.Inv) (hp : s.phase ≠ .idle) : s.Initialised := by
  refine hi.initialised ?_
  by_contra hn
  exact hp (hi.untouched (by simpa using hn)).1

theorem State.Inv.csN_high (hi : s.Inv) (hp : s.phase = .idle ∨ s.phase = .xfS ∨ s.phase = .xfD ∨ s.phase = .dl) :
    s.csN = true := by
  rw [← Bool.not_eq_false, hi.chipSelect]
  rcases hp with hp | hp | hp | hp <;> simp [hp]

theorem State.Inv.wrN_high (hi : s.Inv) (hp : s.phase ≠ .xfB) : s.wrN = true := by
  rw [← Bool.not_eq_false, hi.writeStrobe]
  exact hp

/-- The owners of a bus cycle: an XFER, with byte 0, or an ST0, with one of its three bytes (R34 (b) to (d), R36). -/
def State.Owned (s : State) : Prop := (s.seq = .xfer ∧ s.byteIdx = 0) ∨ (s.seq = .st0 ∧ s.byteIdx ≠ 3)

theorem State.Inv.owner (hi : s.Inv) (hp : s.phase = .xfS ∨ s.phase.inBusCycle = true) : s.Owned := by
  obtain ⟨-, hseq, hbyte⟩ := (unreachable_eq_false s).1 hi.reachable
  have hown := hi.owned hp
  cases hq : s.seq with
  | none => exact absurd hq hown
  | xfer => exact .inl ⟨hq, hi.xferByte hq⟩
  | st0 => exact .inr ⟨hq, hbyte⟩
  | unused3 => exact absurd hq hseq

theorem State.Owned.sequencer (h : s.Owned) :
    s.seq ≠ .none ∧ s.seq ≠ .unused3 ∧ (s.seq = .xfer → s.byteIdx = 0) ∧ s.byteIdx ≠ 3 := by
  obtain ⟨hq, hb⟩ | ⟨hq, hb⟩ := h
  · simp [hq, hb]
  · exact ⟨by simp [hq], by simp [hq], by simp [hq], hb⟩

/-! ### Building the invariant, by the place of the sequencer -/

/-- In IDLE and in a DELAY nothing owns the bus, and the lines are high. -/
theorem inv_of_unowned (hf : s.Initialised)
    (hp : (s.phase = .idle ∧ s.dlyCnt = 0) ∨ (s.phase = .dl ∧ s.dlyCnt ≤ phaseLength s.cfg .dl - 1))
    (hq : s.seq = .none) (hb : s.byteIdx = 0) (hcs : s.csN = true) (hwr : s.wrN = true) : s.Inv := by
  obtain ⟨hdone, hoe, herr⟩ := hf
  obtain ⟨hp, hc⟩ | ⟨hp, hc⟩ := hp <;> exact
    { reachable := (unreachable_eq_false s).2 (by simp [hp, hq, hb])
      idle := by simp [hp, hq, hb, hc]
      delaying := fun _ => ⟨hq, hb⟩
      owned := by simp [hp]
      xferByte := fun _ => hb
      counter := by simpa [hp] using hc
      chipSelect := by simp [hp, hcs]
      writeStrobe := by simp [hp, hwr]
      untouched := by simp [hdone]
      enabled := hoe.trans hdone.symm
      noInitError := by simp [herr] }

/-- In a bus cycle or its set-up the invariant asks for an owner, the counter in range and the lines of R24's table. -/
theorem inv_of_owned (hf : s.Initialised) (hp : s.phase = .xfS ∨ s.phase.inBusCycle = true) (hown : s.Owned)
    (hc : s.dlyCnt ≤ phaseLength s.cfg s.phase - 1)
    (hcs : s.csN = false ↔ s.phase = .xfA ∨ s.phase = .xfB ∨ s.phase = .xfC)
    (hwr : s.wrN = false ↔ s.phase = .xfB) : s.Inv := by
  obtain ⟨hdone, hoe, herr⟩ := hf
  obtain ⟨hnone, hunused, hxfer, hbyte⟩ := hown.sequencer
  have hidle : s.phase ≠ .idle := by rintro h; simp [h] at hp
  have hdl : s.phase ≠ .dl := by rintro h; simp [h] at hp
  have hseven : s.phase ≠ .unused7 := by rintro h; simp [h] at hp
  exact
    { reachable := (unreachable_eq_false s).2 ⟨hseven, hunused, hbyte⟩
      idle := fun h => absurd h hidle
      delaying := fun h => absurd h hdl
      owned := fun _ => hnone
      xferByte := hxfer
      counter := hc
      chipSelect := hcs
      writeStrobe := hwr
      untouched := by simp [hdone]
      enabled := hoe.trans hdone.symm
      noInitError := by simp [herr] }

/-- The invariant does not speak of `ERR_ILL`, of the event log or of the world outside the block. -/
theorem State.Inv.of_unread (hi : s.Inv) (errIll : Bool) (events : List BusWrite) (inputs : List Input) (cycle : Nat)
    (pit : Pit) :
    ({ s with errIll := errIll, events := events, inputs := inputs, cycle := cycle, pit := pit } : State).Inv :=
  ⟨hi.reachable, hi.idle, hi.delaying, hi.owned, hi.xferByte, hi.counter, hi.chipSelect, hi.writeStrobe, hi.untouched,
    hi.enabled, hi.noInitError⟩

theorem State.Inv.nextCycle (hi : s.Inv) (pit : Pit) : (s.nextCycle pit).Inv := hi.of_unread _ _ _ _ _

theorem resetOf_inv (c : Config) : (State.resetOf c).Inv := by
  constructor <;> simp [State.resetOf, State.unreachable]

theorem resetBlock_inv (s : State) : s.resetBlock.Inv := (resetOf_inv s.cfg).of_unread _ _ _ _ _

theorem State.Inv.raise_illegal (hi : s.Inv) : (s.raise .illegal).Inv := hi.of_unread _ _ _ _ _

theorem State.Inv.raise_notInitialised (hi : s.Inv) (hn : s.initDone = false) : (s.raise .notInitialised).Inv :=
  ⟨hi.reachable, hi.idle, hi.delaying, hi.owned, hi.xferByte, hi.counter, hi.chipSelect, hi.writeStrobe, hi.untouched,
    hi.enabled, fun _ => hn⟩

/-- After INIT the invariant leaves the address and the data free. -/
theorem State.Inv.with_address_data (hi : s.Inv) (hn : s.initDone = true) (a1 a0 : Bool) (d : Byte) :
    ({ s with a1 := a1, a0 := a0, d := d } : State).Inv :=
  ⟨hi.reachable, hi.idle, hi.delaying, hi.owned, hi.xferByte, hi.counter, hi.chipSelect, hi.writeStrobe,
    (fun h => nomatch hn.symm.trans h), hi.enabled, hi.noInitError⟩

theorem State.Inv.countDown (hi : s.Inv) (hc : s.dlyCnt ≠ 0) : s.countDown.Inv :=
  ⟨hi.reachable, fun hp => absurd (hi.idle hp).1 hc, hi.delaying, hi.owned, hi.xferByte,
    (Nat.sub_le _ _).trans hi.counter, hi.chipSelect, hi.writeStrobe, hi.untouched, hi.enabled, hi.noInitError⟩

/-! ### Every move keeps it -/

theorem byteIdx_succ_ne_three {i : BitVec 2} (h : i < 2) : i + 1 ≠ 3 := by
  revert i; decide

theorem Move.keeps_inv (h : Move inp s t) (hi : s.Inv) : t.Inv := by
  cases h with
  | reset => exact resetBlock_inv s
  | wait => exact hi
  | illegal => exact hi.raise_illegal
  | notInit hr hp hv i hd hne hn => exact hi.raise_notInitialised hn
  | init hr hp =>
    obtain ⟨hc, hq, hb⟩ := hi.idle hp
    exact inv_of_unowned ⟨rfl, rfl, rfl⟩ (.inl ⟨hp, hc⟩) hq hb rfl rfl
  | seta hr hp hv hn => exact hi.with_address_data hn _ _ _
  | setd hr hp hv hn => exact hi.with_address_data hn _ _ _
  | xfer hr hp hv hn =>
    have hwr := hi.wrN_high (by simp [hp])
    exact inv_of_owned (hi.initialised hn) (.inr rfl) (.inl ⟨rfl, rfl⟩) le_rfl (by simp) (by simp [hwr])
  | st0 hr hp hv hn =>
    exact inv_of_owned (hi.initialised hn) (.inl rfl) (.inr ⟨rfl, by simp⟩) le_rfl (by simp) (by simp)
  | delay hr hp hv hn =>
    obtain ⟨-, hq, hb⟩ := hi.idle hp
    exact inv_of_unowned (hi.initialised hn) (.inr ⟨rfl, le_rfl⟩) hq hb (hi.csN_high (.inl hp))
      (hi.wrN_high (by simp [hp]))
  | count hr hp hc => exact hi.countDown hc
  | exitS hr hp =>
    have hwr := hi.wrN_high (by simp [hp])
    exact inv_of_owned (hi.initialised_of_busy (by simp [hp])) (.inr rfl) (hi.owner (by simp [hp])) le_rfl
      (by simp) (by simp [hwr])
  | exitA hr hp =>
    have hcs := hi.chipSelect.2 (.inl hp)
    exact inv_of_owned (hi.initialised_of_busy (by simp [hp])) (.inr rfl) (hi.owner (by simp [hp])) le_rfl
      (by simp [hcs]) (by simp)
  | exitB hr hp =>
    have hcs := hi.chipSelect.2 (.inr (.inl hp))
    exact inv_of_owned (hi.initialised_of_busy (by simp [hp])) (.inr rfl) (hi.owner (by simp [hp])) le_rfl
      (by simp [hcs]) (by simp)
  | exitC hr hp =>
    have hwr := hi.wrN_high (by simp [hp])
    exact inv_of_owned (hi.initialised_of_busy (by simp [hp])) (.inr rfl) (hi.owner (by simp [hp])) le_rfl
      (by simp) (by simp [hwr])
  | nextByte hr hp hc hq hb =>
    have hcs := hi.csN_high (.inr (.inr (.inl hp)))
    have hwr := hi.wrN_high (by simp [hp])
    exact inv_of_owned (hi.initialised_of_busy (by simp [hp])) (.inl rfl) (.inr ⟨hq, byteIdx_succ_ne_three hb⟩) le_rfl
      (by simp [State.advanceByte, hcs]) (by simp [State.advanceByte, hwr])
  | finish hr hp hc =>
    exact inv_of_unowned (hi.initialised_of_busy (by simp [hp])) (.inl ⟨rfl, hc⟩) rfl rfl (hi.csN_high (by simp [hp]))
      (hi.wrN_high (by simp [hp]))
  | exitDl hr hp hc =>
    obtain ⟨hq, hb⟩ := hi.delaying hp
    exact inv_of_unowned (hi.initialised_of_busy (by simp [hp])) (.inl ⟨rfl, hc⟩) hq hb (hi.csN_high (by simp [hp]))
      (hi.wrN_high (by simp [hp]))

/-- Settles O30: a step is a move and the clock edge, and both keep the invariant. -/
theorem everyStepKeepsTheInvariant : Obligations.EveryStepKeepsTheInvariant := by
  intro s t hi hstep
  obtain ⟨u, hmove, rfl⟩ := move_of_step hstep
  exact (hmove.keeps_inv hi).nextCycle _

/-- Settles O29: the launch state is the reset state of one configuration. -/
theorem invariantHoldsAtReset : Obligations.InvariantHoldsAtReset := ⟨resetOf_inv _, resetOf_inv⟩

end Sys2Proof.Machine
end

section
/-! The flags and `OE` over a step (R27, R29, R172), and who writes `D` (R23): O38, O39 and O40. -/

namespace Sys2Proof.Machine

/-! ### Decoding and legality -/

theorem requireZero_isOk (reserved : Bool) (mnemonic : String) (i : Instr) :
    (requireZero reserved mnemonic i).isOk = reserved := by
  cases reserved <;> rfl

theorem isOk_ok (i : Instr) : (.ok i : Except DecodeError Instr).isOk = true := rfl

theorem isOk_error (e : DecodeError) : (.error e : Except DecodeError Instr).isOk = false := rfl

theorem opcode_beq (op k : BitVec 4) : (op == k) = (op.toNat == k.toNat) := by
  rw [Bool.eq_iff_iff, beq_iff_eq, beq_iff_eq, BitVec.toNat_inj]

/-- A word decodes exactly when it is legal: both read the opcode first (30_encoding.md R74, R78). -/
theorem decode_isOk (w : CommandWord) : (decode w).isOk = legal (opField w) (argField w) := by
  unfold decode legal
  split <;> simp only [imp_false] at * <;> simp [requireZero_isOk, isOk_ok, isOk_error, opcode_beq, *]

theorem legal_of_decode_ok {w : CommandWord} {i : Instr} (h : decode w = .ok i) :
    legal (opField w) (argField w) = true := by
  rw [← decode_isOk, h, isOk_ok]

theorem illegal_of_decode_error {w : CommandWord} {e : DecodeError} (h : decode w = .error e) :
    legal (opField w) (argField w) = false := by
  rw [← decode_isOk, h, isOk_error]

/-! ### The flags -/

/-- What a cycle makes of `OE`, `INIT_DONE`, `ERR_ILL` and `ERR_NOINIT`, in this order, by what happens in it
(10_state.md R27, R29). -/
inductive FlagMove (inp : Input) (s : State) : Bool → Bool → Bool → Bool → Prop where
  | reset (hr : inp.rst = true) : FlagMove inp s false false false false
  | keep (hr : inp.rst = false) (ha : s.accepts inp = false) :
      FlagMove inp s s.oe s.initDone s.errIll s.errNoInit
  | illegal (hr : inp.rst = false) (ha : s.accepts inp = true) (e : DecodeError) (hd : decode inp.cmd = .error e) :
      FlagMove inp s s.oe s.initDone true s.errNoInit
  | init (hr : inp.rst = false) (ha : s.accepts inp = true) (hd : decode inp.cmd = .ok .init) :
      FlagMove inp s true true false false
  | notInit (hr : inp.rst = false) (ha : s.accepts inp = true) (i : Instr) (hd : decode inp.cmd = .ok i)
      (hi : i ≠ .init) (hn : s.initDone = false) : FlagMove inp s s.oe s.initDone s.errIll true
  | command (hr : inp.rst = false) (ha : s.accepts inp = true) (i : Instr) (hd : decode inp.cmd = .ok i)
      (hi : i ≠ .init) (hn : s.initDone = true) : FlagMove inp s s.oe s.initDone s.errIll s.errNoInit

variable {inp : Input} {s t : State}

theorem accepts_of_idle (hr : inp.rst = false) (hp : s.phase = .idle) (hv : inp.cmdValid = true) :
    s.accepts inp = true := (accepts_iff s inp).2 ⟨hv, hr, hp⟩

theorem accepts_of_quiet (hv : inp.cmdValid = false) : s.accepts inp = false := by
  simp [State.accepts, hv]

theorem accepts_of_busy (hp : s.phase ≠ .idle) : s.accepts inp = false := by
  simp [State.accepts, State.cmdReady, hp]

theorem Move.flagMove (h : Move inp s t) : FlagMove inp s t.oe t.initDone t.errIll t.errNoInit := by
  cases h with
  | reset hr => exact .reset hr
  | wait hr hp hv => exact .keep hr (accepts_of_quiet hv)
  | illegal hr hp hv e hd => exact .illegal hr (accepts_of_idle hr hp hv) e hd
  | notInit hr hp hv i hd hi hn => exact .notInit hr (accepts_of_idle hr hp hv) i hd hi hn
  | init hr hp hv hd => exact .init hr (accepts_of_idle hr hp hv) hd
  | seta hr hp hv hn a1 a0 hd => exact .command hr (accepts_of_idle hr hp hv) _ hd (by simp) hn
  | setd hr hp hv hn b hd => exact .command hr (accepts_of_idle hr hp hv) _ hd (by simp) hn
  | xfer hr hp hv hn hd => exact .command hr (accepts_of_idle hr hp hv) _ hd (by simp) hn
  | st0 hr hp hv hn lsb msb hd => exact .command hr (accepts_of_idle hr hp hv) _ hd (by simp) hn
  | delay hr hp hv hn hd => exact .command hr (accepts_of_idle hr hp hv) _ hd (by simp) hn
  | count hr hp => exact .keep hr (accepts_of_busy (by rintro h; simp [h] at hp))
  | exitS hr hp => exact .keep hr (accepts_of_busy (by simp [hp]))
  | exitA hr hp => exact .keep hr (accepts_of_busy (by simp [hp]))
  | exitB hr hp => exact .keep hr (accepts_of_busy (by simp [hp]))
  | exitC hr hp => exact .keep hr (accepts_of_busy (by simp [hp]))
  | nextByte hr hp => exact .keep hr (accepts_of_busy (by simp [hp]))
  | finish hr hp => exact .keep hr (accepts_of_busy (by simp [hp]))
  | exitDl hr hp => exact .keep hr (accepts_of_busy (by simp [hp]))

theorem flagMove_of_step (h : step s = .next t) :
    FlagMove s.currentInput s t.oe t.initDone t.errIll t.errNoInit := by
  obtain ⟨u, hmove, rfl⟩ := move_of_step h
  exact hmove.flagMove

/-- Settles O38, in each of the things that can happen to the flags. -/
theorem flagsFollowTheirRules : Obligations.FlagsFollowTheirRules := by
  intro s t hstep
  have h := flagMove_of_step hstep
  generalize t.oe = oe, t.initDone = initDone, t.errIll = errIll, t.errNoInit = errNoInit at h ⊢
  cases h with
  | reset hr => simp [hr]
  | keep hr ha => simp [hr, ha]
  | illegal hr ha e hd => simp [hr, ha, hd, illegal_of_decode_error hd]
  | init hr ha hd => simp [hr, ha, hd, legal_of_decode_ok hd]
  | notInit hr ha i hd hi hn => simp [hr, ha, hd, hi, hn, legal_of_decode_ok hd]
  | command hr ha i hd hi hn => simp [hr, ha, hd, hi, hn, legal_of_decode_ok hd]

/-- Settles O39, in each of the things that can happen to the flags. -/
theorem outputsEnabledByInitOnly : Obligations.OutputsEnabledByInitOnly := by
  intro s t hstep
  have h := flagMove_of_step hstep
  generalize t.oe = oe, t.initDone = initDone, t.errIll = errIll, t.errNoInit = errNoInit at h ⊢
  cases h with
  | reset hr => simp [hr]
  | keep hr ha => simp [hr, ha]
  | illegal hr ha e hd => simp [hr, hd]
  | init hr ha hd => simp [hr, ha, hd]
  | notInit hr ha i hd hi => simp [hr, hd, hi]
  | command hr ha i hd hi => simp [hr, hd, hi]

/-! ### The data latch -/

/-- With no reset, a move that changes `D` is the acceptance of one of three commands or a byte advance, and leaves the
block in IDLE or XF_S. -/
theorem Move.data_writers (h : Move inp s t) (hr : inp.rst = false) (hd : t.d ≠ s.d) :
    (t.phase = .idle ∨ t.phase = .xfS) ∧
    ((s.phase = .idle ∧ s.accepts inp = true ∧
        (decode inp.cmd = .ok .init ∨ (∃ b, decode inp.cmd = .ok (.setd b)) ∨
          ∃ l m, decode inp.cmd = .ok (.st0 l m))) ∨
      (s.phase = .xfD ∧ s.dlyCnt = 0 ∧ s.seq = .st0 ∧ s.byteIdx < 2)) := by
  cases h with
  | reset h => exact absurd (h.symm.trans hr) (by decide)
  | init _ hp hv hi => exact ⟨.inl hp, .inl ⟨hp, accepts_of_idle hr hp hv, .inl hi⟩⟩
  | setd _ hp hv _ b hi => exact ⟨.inl hp, .inl ⟨hp, accepts_of_idle hr hp hv, .inr (.inl ⟨b, hi⟩)⟩⟩
  | st0 _ hp hv _ l m hi => exact ⟨.inr rfl, .inl ⟨hp, accepts_of_idle hr hp hv, .inr (.inr ⟨l, m, hi⟩)⟩⟩
  | nextByte _ hp hc hq hb => exact ⟨.inr rfl, .inr ⟨hp, hc, hq, hb⟩⟩
  | wait | illegal | notInit | seta | xfer | delay | count | exitS | exitA | exitB | exitC | finish | exitDl =>
    exact absurd rfl hd

/-- Settles O40: in the phases before and after such a step the invariant has both lines high. -/
theorem dataBusChangesOnlyWhileIdleLines : Obligations.DataBusChangesOnlyWhileIdleLines := by
  intro s t hi hstep hr hd
  obtain ⟨u, hmove, rfl⟩ := move_of_step hstep
  have hiu := hmove.keeps_inv hi
  obtain ⟨hafter, hwriter⟩ := hmove.data_writers hr hd
  have hbefore : s.phase = .idle ∨ s.phase = .xfD := hwriter.imp And.left And.left
  have hcs : s.csN = true := hi.csN_high (by tauto)
  have hwr : s.wrN = true := hi.wrN_high (by rcases hbefore with h | h <;> simp [h])
  have hcs' : u.csN = true := hiu.csN_high (by tauto)
  have hwr' : u.wrN = true := hiu.wrN_high (by rcases hafter with h | h <;> simp [h])
  exact ⟨hcs, hwr, hcs', hwr', hwriter.imp_left And.right⟩

end Sys2Proof.Machine
end

section
/-! When a step stops, and what it reads of the command port (R30, R36, R71): O32, O16 and O17. -/

namespace Sys2Proof.Machine

variable {inp inp' : Input} {s t : State}

/-! ### The fault -/

theorem unreachable_eq_true : s.unreachable = true ↔ s.phase = .unused7 ∨ s.seq = .unused3 ∨ s.byteIdx = 3 := by
  simp [State.unreachable, or_assoc]

theorem step_fault (hr : s.currentInput.rst = false) (hu : s.unreachable = true) :
    step s = .fault .unreachableState := by
  simp [step, cycleStep, blockStep, hr, hu]

theorem step_answers_next (h : s.currentInput.rst = true ∨ s.unreachable = false) : ∃ t, step s = .next t := by
  obtain ⟨t, ht⟩ := blockStep_answers_next h
  exact ⟨_, step_eq_next_iff.2 ⟨t, ht, rfl⟩⟩

/-- A step is the fault or answers a next state, and `rst` and the encodings decide which (10_state.md R36). -/
theorem step_fault_or_next (s : State) :
    ((s.currentInput.rst = false ∧ s.unreachable = true) ∧ step s = .fault .unreachableState) ∨
    (¬ (s.currentInput.rst = false ∧ s.unreachable = true) ∧ ∃ t, step s = .next t) := by
  by_cases h : s.currentInput.rst = false ∧ s.unreachable = true
  · exact .inl ⟨h, step_fault h.1 h.2⟩
  · exact .inr ⟨h, step_answers_next (by simpa [imp_iff_not_or] using h)⟩

/-- Settles O32. -/
theorem faultExactlyAtUnreachableEncodings : Obligations.FaultExactlyAtUnreachableEncodings := by
  intro s
  rw [← unreachable_eq_true]
  obtain ⟨hc, hs⟩ | ⟨hc, t, hs⟩ := step_fault_or_next s <;> simp [hs, hc]

/-! ### The command port -/

/-- Settles O16: R71's formula is R30's handshake written out. -/
theorem acceptedExactlyWhenReadyAndValid : Obligations.AcceptedExactlyWhenReadyAndValid := by
  intro s inp
  constructor
  · rw [accepts_iff]
    tauto
  · simp [State.accepts]

/-- The state with other inputs to come. -/
def State.withInputs (s : State) (l : List Input) : State := { s with inputs := l }

/-- The outcome with its next state changed. -/
def mapNext (f : State → State) : Host.Outcome State Fault Refusal → Host.Outcome State Fault Refusal
  | .next t => .next (f t)
  | .fault r => .fault r
  | .refused r => .refused r

theorem timed_withInputs (s exit : State) (l : List Input) :
    (s.withInputs l).timed (exit.withInputs l) = (s.timed exit).withInputs l := by
  rcases timed_cases s exit with ⟨hc, h⟩ | ⟨hc, h⟩ <;> rw [h]
  · exact timed_counting (s.withInputs l) _ hc
  · exact timed_exit (s.withInputs l) _ hc

theorem xfDStep_withInputs (s : State) (l : List Input) : xfDStep (s.withInputs l) = (xfDStep s).withInputs l := by
  refine Eq.trans ?_ (timed_withInputs s _ l)
  unfold xfDStep
  congr 1
  by_cases h : s.seq = .st0 ∧ s.byteIdx < 2
  · rw [if_pos h]
    exact if_pos h
  · rw [if_neg h]
    exact if_neg h

/-- In a busy phase the block reads nothing of the inputs, and leaves the list of them as it is. -/
theorem phaseStep_withInputs_of_busy (hp : s.phase ≠ .idle) (l : List Input) :
    phaseStep inp (s.withInputs l) = mapNext (·.withInputs l) (phaseStep inp' s) := by
  have hsame : (s.withInputs l).phase = s.phase := rfl
  unfold phaseStep
  rw [hsame]
  cases hphase : s.phase with
  | idle => exact absurd hphase hp
  | xfS => exact congrArg Host.Outcome.next (timed_withInputs s ((s.setCs false).enter .xfA) l)
  | xfA => exact congrArg Host.Outcome.next (timed_withInputs s ((s.setWr false).enter .xfB) l)
  | xfB => exact congrArg Host.Outcome.next (timed_withInputs s (((s.setWr true).emitWrite s.busWrite).enter .xfC) l)
  | xfC => exact congrArg Host.Outcome.next (timed_withInputs s ((s.setCs true).enter .xfD) l)
  | xfD => exact congrArg Host.Outcome.next (xfDStep_withInputs s l)
  | dl => exact congrArg Host.Outcome.next (timed_withInputs s s.toIdle l)
  | unused7 => rfl

/-- In a busy phase the block reads only `rst` of the inputs. -/
theorem blockStep_withInputs_of_busy (hp : s.phase ≠ .idle) (hr : inp.rst = inp'.rst) (l : List Input) :
    blockStep inp (s.withInputs l) = mapNext (·.withInputs l) (blockStep inp' s) := by
  have hu : (s.withInputs l).unreachable = s.unreachable := rfl
  unfold blockStep
  rw [hr, hu, phaseStep_withInputs_of_busy hp l (inp' := inp')]
  cases inp'.rst <;> cases s.unreachable <;> rfl

theorem busDisturbed_withInputs (s t : State) (rest : List Input) (hf : inp.foreignDrive = inp'.foreignDrive) :
    busDisturbed (s.withInputs (inp :: rest)) (t.withInputs (inp :: rest)) =
      busDisturbed (s.withInputs (inp' :: rest)) (t.withInputs (inp' :: rest)) :=
  congrArg (!s.oe || !t.oe || ·) hf

theorem emitted_withInputs (s : State) (l l' : List Input) (hr : inp.rst = inp'.rst) :
    (s.withInputs l).emitted inp = (s.withInputs l').emitted inp' := by
  unfold State.emitted
  rw [hr]
  rfl

/-- The 8254's side of a step reads only `rst` and `foreignDrive` of the inputs. -/
theorem nextPit_withInputs (s t : State) (rest : List Input) (hr : inp.rst = inp'.rst)
    (hf : inp.foreignDrive = inp'.foreignDrive) :
    (s.withInputs (inp :: rest)).nextPit (t.withInputs (inp :: rest)) =
      (s.withInputs (inp' :: rest)).nextPit (t.withInputs (inp' :: rest)) := by
  have hemitted : (s.withInputs (inp :: rest)).emitted (s.withInputs (inp :: rest)).currentInput =
      (s.withInputs (inp' :: rest)).emitted (s.withInputs (inp' :: rest)).currentInput :=
    emitted_withInputs s _ _ hr
  unfold State.nextPit State.chipAfter State.disturbanceAfter
  rw [busDisturbed_withInputs s t rest hf, hemitted]
  rfl

theorem step_withInputs_of_busy (hp : s.phase ≠ .idle) (hr : inp.rst = inp'.rst)
    (hf : inp.foreignDrive = inp'.foreignDrive) (rest : List Input) :
    step (s.withInputs (inp :: rest)) = step (s.withInputs (inp' :: rest)) := by
  have hin (i : Input) : (s.withInputs (i :: rest)).currentInput = i := rfl
  unfold step cycleStep
  rw [hin, hin, blockStep_withInputs_of_busy hp hr, blockStep_withInputs_of_busy hp rfl (inp := inp')]
  cases blockStep inp' s with
  | next t =>
    simp only [mapNext, nextPit_withInputs s t rest hr hf]
    rfl
  | fault | refused => rfl

/-- Settles O17: neither the block's step nor the 8254's side of it reads the command port in a busy cycle. -/
theorem busyStepIgnoresTheCommandPort : Obligations.BusyStepIgnoresTheCommandPort :=
  fun s v v' w w' rst fd rest hp =>
    step_withInputs_of_busy (s := s) (inp := ⟨rst, v, w, fd⟩) (inp' := ⟨rst, v', w', fd⟩) hp rfl rfl rest

end Sys2Proof.Machine
end

section
/-! What the state shows on `STATUS`, the pins and the ports (R27, R28, R31): O47, O48, O49, O55 and O56. -/

namespace Sys2Proof.Machine

variable {s : State}

theorem drives_of_enabled (h : s.oe = true) (p : BusPin) : s.drives p = some (s.latch p) := by
  simp [State.drives, h]

theorem drives_of_disabled (h : s.oe = false) (p : BusPin) : s.drives p = none := by
  simp [State.drives, h]

theorem getLsbD_fourBits : ∀ b3 b2 b1 b0 : Bool,
    let w := BitVec.ofBool b3 ++ BitVec.ofBool b2 ++ BitVec.ofBool b1 ++ BitVec.ofBool b0
    w.getLsbD 0 = b0 ∧ w.getLsbD 1 = b1 ∧ w.getLsbD 2 = b2 ∧ w.getLsbD 3 = b3 := by
  decide

/-- Settles O47: `STATUS` is the concatenation of its four bits. -/
theorem statusBitsAreTheFlags : Obligations.StatusBitsAreTheFlags := by
  intro s
  obtain ⟨hbusy, hdone, hill, hno⟩ := getLsbD_fourBits s.errNoInit s.errIll s.initDone s.busy
  refine ⟨?_, hdone, hill, hno⟩
  rw [State.status, hbusy, State.busy, bne_iff_ne]

/-- Settles O48. -/
theorem pinsCarryTheLatchesWhenEnabled : Obligations.PinsCarryTheLatchesWhenEnabled := fun _ =>
  ⟨fun h => ⟨drives_of_enabled h _, drives_of_enabled h _, drives_of_enabled h _, drives_of_enabled h _,
    fun _ => drives_of_enabled h _⟩, drives_of_disabled⟩

/-- Settles O55: a bit of the data port is the pin of that bit. -/
theorem dataPortCarriesTheDataLatch : Obligations.DataPortCarriesTheDataLatch := fun _ _ =>
  ⟨fun h => drives_of_enabled h _, fun h => drives_of_disabled h _⟩

/-- Settles O49: the four positions are distinct, so no test of a bit hides a later one. -/
theorem controlPortCarriesOnlyTheFourLines : Obligations.ControlPortCarriesOnlyTheFourLines := by
  intro s
  have hpins := s.cfg.pins_nodup
  simp only [List.nodup_cons, List.mem_cons, List.not_mem_nil, or_false, not_or] at hpins
  obtain ⟨⟨hcw, hc0, hc1⟩, ⟨hw0, hw1⟩, h01, -⟩ := hpins
  refine ⟨?_, ?_, ?_, ?_, ?_⟩
  · simp [State.drivesCtrlPort]
  · simp [State.drivesCtrlPort, Ne.symm hcw]
  · simp [State.drivesCtrlPort, Ne.symm hc0, Ne.symm hw0]
  · simp [State.drivesCtrlPort, Ne.symm hc1, Ne.symm hw1, Ne.symm h01]
  · intro b hb
    simp only [List.mem_cons, List.not_mem_nil, or_false, not_or] at hb
    simp [State.drivesCtrlPort, hb]

/-! ### Levels -/

theorem levelSeen_of_alone {p : BusPin} (ho : s.oe = true)
    (ha : s.currentInput.foreignDrive = false ∨ BusPin.onControlPort p = false) : s.levelSeen p = s.latch p := by
  rcases ha with ha | ha <;> simp [State.levelSeen, ha, drives_of_enabled ho]

theorem levelSeen_of_disabled (ho : s.oe = false) (p : BusPin) : s.levelSeen p = Config.freeLevel s.cycle p := by
  simp [State.levelSeen, drives_of_disabled ho]

theorem levelSeen_of_foreignDrive {p : BusPin} (hf : s.currentInput.foreignDrive = true)
    (hp : BusPin.onControlPort p = true) : s.levelSeen p = Config.freeLevel s.cycle p := by
  simp [State.levelSeen, hf, hp]

/-- Settles O56. -/
theorem levelsSeenAreTheLatchesOrFree : Obligations.LevelsSeenAreTheLatchesOrFree := by
  intro s
  refine ⟨fun ho i => levelSeen_of_alone ho (.inr rfl), fun ho hf => ?_, levelSeen_of_disabled, fun hf p hp => ?_⟩
  · exact ⟨levelSeen_of_alone ho (.inl hf), levelSeen_of_alone ho (.inl hf), levelSeen_of_alone ho (.inl hf),
      levelSeen_of_alone ho (.inl hf)⟩
  · refine levelSeen_of_foreignDrive hf ?_
    simp only [List.mem_cons, List.not_mem_nil, or_false] at hp
    rcases hp with rfl | rfl | rfl | rfl <;> rfl

end Sys2Proof.Machine
end

section
/-! Which step emits a bus write, and which one (20_memory.md R52): O37. -/

namespace Sys2Proof.Machine

variable {inp : Input} {s t : State}

/-- The two address latches as the number `{A1, A0}` (20_memory.md R51). -/
theorem addressOf_eq_ofNat : ∀ a1 a0 : Bool, addressOf a1 a0 = BitVec.ofNat 2 (2 * a1.toNat + a0.toNat) := by
  decide

/-- XF_B's exit is the only move that touches the event log: every other one is a reset, a count or in another phase. -/
theorem Move.strobeExit_or_silent (h : Move inp s t) :
    ((inp.rst = false ∧ s.phase = .xfB ∧ s.dlyCnt = 0) ∧
      t = ((s.setWr true).emitWrite s.busWrite).enter .xfC) ∨
    (¬ (inp.rst = false ∧ s.phase = .xfB ∧ s.dlyCnt = 0) ∧ t.events = s.events) := by
  cases h with
  | exitB hr hp hc => exact .inl ⟨⟨hr, hp, hc⟩, rfl⟩
  | reset hr => exact .inr ⟨by simp [hr], rfl⟩
  | count _ _ hc => exact .inr ⟨by simp [hc], rfl⟩
  | wait _ hp | illegal _ hp | notInit _ hp | init _ hp | seta _ hp | setd _ hp | xfer _ hp | st0 _ hp | delay _ hp
  | exitS _ hp | exitA _ hp | exitC _ hp | nextByte _ hp | finish _ hp | exitDl _ hp =>
    exact .inr ⟨by simp [hp], rfl⟩

/-- Settles O37: a step is XF_B's exit, which appends the write on the latches, or leaves the log as it is; the clock
edge touches neither the log nor the lines. -/
theorem onlyTheStrobeExitEmits : Obligations.OnlyTheStrobeExitEmits := by
  intro s t hstep
  obtain ⟨u, hmove, rfl⟩ := move_of_step hstep
  obtain ⟨hexit, rfl⟩ | ⟨hother, hevents⟩ := hmove.strobeExit_or_silent
  · refine ⟨fun _ => ⟨rfl, rfl, ?_⟩, fun hn => absurd hexit hn⟩
    rw [← addressOf_eq_ofNat]
    rfl
  · exact ⟨fun hexit => absurd hexit hother, fun _ => hevents⟩

end Sys2Proof.Machine
end

section
/-! Words and commands (30_encoding.md R70, R72 to R74): a word is its opcode and its argument, a command is its opcode
and the argument R73 gives its operands, and the decoder compares the two. O41 to O44. -/

namespace Sys2Proof.Machine

/-! ### Cutting a bit vector in two -/

theorem eq_append_iff {m n : Nat} {x : BitVec (m + n)} {hi : BitVec m} {lo : BitVec n} :
    x = hi ++ lo ↔ x.extractLsb' n m = hi ∧ x.extractLsb' 0 n = lo := by
  constructor
  · rintro rfl
    exact ⟨BitVec.extractLsb'_append_eq_left, BitVec.extractLsb'_append_eq_right⟩
  · rintro ⟨rfl, rfl⟩
    exact BitVec.extractLsb'_append_extractLsb'.symm

theorem and_highMask_eq_zero_iff {m n : Nat} (x : BitVec (m + n)) :
    x &&& (BitVec.allOnes m ++ 0#n) = 0#m ++ 0#n ↔ x.extractLsb' n m = 0#m := by
  obtain ⟨hi, lo, rfl⟩ : ∃ (hi : BitVec m) (lo : BitVec n), x = hi ++ lo := ⟨_, _, eq_append_iff.2 ⟨rfl, rfl⟩⟩
  rw [BitVec.and_append, BitVec.and_allOnes, BitVec.and_zero, BitVec.append_left_inj,
    BitVec.extractLsb'_append_eq_left]

/-- A word is its opcode followed by its argument (R70). -/
theorem eq_op_append_arg_iff {w : CommandWord} {op : BitVec 4} {arg : Half} :
    w = op ++ arg ↔ opField w = op ∧ argField w = arg :=
  eq_append_iff (m := 4) (n := 16)

/-! ### The fields of a command's word -/

/-- The argument that carries a command's operands (R73). -/
def argOf : Instr → Half
  | .init => 0#16
  | .seta a1 a0 => 0#14 ++ addressOf a1 a0
  | .setd data => 0#8 ++ data
  | .xfer => 0#16
  | .st0 lsb msb => msb ++ lsb
  | .delay => 0#16

/-- Appending is placing the high part and or-ing the low one in, as the encoder does. -/
theorem append_eq_or (op : BitVec 4) (arg : Half) :
    (op ++ arg : CommandWord) = op.setWidth 20 <<< 16 ||| arg.setWidth 20 := by
  rw [← BitVec.setWidth_append_eq_shiftLeft_setWidth_or]
  exact (BitVec.setWidth_eq _).symm

theorem encode_eq_append (i : Instr) : encode i = opcodeOf i ++ argOf i := by
  rw [append_eq_or]
  cases i with
  | init | xfer | delay => rfl
  | seta a1 a0 => revert a1 a0; decide
  | setd data =>
    rw [argOf, BitVec.setWidth_append_eq_shiftLeft_setWidth_or]
    simp [encode, opcodeOf]
  | st0 lsb msb =>
    rw [argOf, BitVec.setWidth_append_eq_shiftLeft_setWidth_or, ← BitVec.or_assoc]
    simp [encode, opcodeOf]

/-! ### What decodes -/

theorem requireZero_eq_ok_iff (reserved : Bool) (mnemonic : String) (i j : Instr) :
    requireZero reserved mnemonic i = .ok j ↔ reserved = true ∧ i = j := by
  cases reserved <;> simp [requireZero]

theorem eq_addressOf_iff : ∀ {x : BusAddr} {a1 a0 : Bool},
    x = addressOf a1 a0 ↔ x.getLsbD 1 = a1 ∧ x.getLsbD 0 = a0 := by
  decide

theorem eq_setaArg_iff {arg : Half} {a1 a0 : Bool} :
    arg = argOf (.seta a1 a0) ↔ arg.extractLsb' 2 14 = 0 ∧ arg.getLsbD 1 = a1 ∧ arg.getLsbD 0 = a0 := by
  have hlow (k : Nat) (hk : k < 2) : (arg.extractLsb' 0 2).getLsbD k = arg.getLsbD k := by
    simp [hk]
  rw [← hlow 1 (by decide), ← hlow 0 (by decide), ← eq_addressOf_iff]
  exact eq_append_iff (m := 14) (n := 2)

theorem eq_setdArg_iff {arg : Half} {data : Byte} :
    arg = argOf (.setd data) ↔ arg.extractLsb' 8 8 = 0 ∧ arg.extractLsb' 0 8 = data :=
  eq_append_iff (m := 8) (n := 8)

theorem eq_st0Arg_iff {arg : Half} {lsb msb : Byte} :
    arg = argOf (.st0 lsb msb) ↔ arg.extractLsb' 8 8 = msb ∧ arg.extractLsb' 0 8 = lsb :=
  eq_append_iff (m := 8) (n := 8)

/-- A word decodes to a command exactly when its fields are those of the command. -/
theorem decode_eq_ok_iff {w : CommandWord} {i : Instr} :
    decode w = .ok i ↔ opField w = opcodeOf i ∧ argField w = argOf i := by
  constructor
  · intro h
    unfold decode at h
    split at h <;> rename_i hop
    case h_5 =>
      cases h
      exact ⟨BitVec.eq_of_toNat_eq hop, eq_st0Arg_iff.2 ⟨rfl, rfl⟩⟩
    case h_7 => cases h
    all_goals
      obtain ⟨hzero, rfl⟩ := (requireZero_eq_ok_iff _ _ _ _).1 h
      rw [beq_iff_eq] at hzero
      refine ⟨BitVec.eq_of_toNat_eq hop, ?_⟩
    case h_1 | h_4 | h_6 => exact hzero
    case h_2 => exact eq_setaArg_iff.2 ⟨hzero, rfl, rfl⟩
    case h_3 => exact eq_setdArg_iff.2 ⟨hzero, rfl⟩
  · rintro ⟨hop, harg⟩
    unfold decode
    rw [hop]
    cases i with
    | init | xfer | delay => exact (requireZero_eq_ok_iff _ _ _ _).2 ⟨beq_iff_eq.2 harg, rfl⟩
    | seta a1 a0 =>
      obtain ⟨hzero, rfl, rfl⟩ := eq_setaArg_iff.1 harg
      exact (requireZero_eq_ok_iff _ _ _ _).2 ⟨beq_iff_eq.2 hzero, rfl⟩
    | setd data =>
      obtain ⟨hzero, rfl⟩ := eq_setdArg_iff.1 harg
      exact (requireZero_eq_ok_iff _ _ _ _).2 ⟨beq_iff_eq.2 hzero, rfl⟩
    | st0 lsb msb =>
      obtain ⟨rfl, rfl⟩ := eq_st0Arg_iff.1 harg
      rfl

theorem decode_eq_ok_iff_encode {w : CommandWord} {i : Instr} : decode w = .ok i ↔ w = encode i := by
  rw [encode_eq_append, eq_op_append_arg_iff, decode_eq_ok_iff]

/-- Settles O41: the fields of a command's word are the ones its decoding asks for. -/
theorem decodeOfEncode : Obligations.DecodeOfEncode := fun _ => decode_eq_ok_iff_encode.2 rfl

/-- Settles O42: a word is determined by its two fields, and decoding fixes both. -/
theorem encodeOfDecode : Obligations.EncodeOfDecode := fun _ _ h => (decode_eq_ok_iff_encode.1 h).symm

/-! ### The opcode table -/

/-- A row compares the opcode and the argument one by one. -/
theorem covers_iff (r : OpcodeRow) (w : CommandWord) :
    r.covers w = true ↔ opField w &&& opField r.mask = opField r.pattern ∧
      argField w &&& argField r.mask = argField r.pattern := by
  have hcut (v : CommandWord) : v = opField v ++ argField v := eq_op_append_arg_iff.2 ⟨rfl, rfl⟩
  have hand : w &&& r.mask = (opField w &&& opField r.mask) ++ (argField w &&& argField r.mask) := by
    rw [← BitVec.and_append, ← hcut, ← hcut]
  rw [OpcodeRow.covers, beq_iff_eq, hand, eq_comm, eq_op_append_arg_iff, eq_comm, @eq_comm _ (argField _)]

/-- Every row of the table masks the whole opcode and asks for zeros under its mask of the argument. -/
theorem covers_iff_of_mem {r : OpcodeRow} (hr : r ∈ opcodeTable) (w : CommandWord) :
    r.covers w = true ↔ opField w = opField r.pattern ∧ argField w &&& argField r.mask = 0 := by
  have hrow : opField r.mask = BitVec.allOnes 4 ∧ argField r.pattern = 0 := by
    revert r; decide
  rw [covers_iff, hrow.1, hrow.2, BitVec.and_allOnes]

/-- The bits of a SETA argument that R73 does not define, and those of a SETD argument, are masked by its row. -/
theorem reservedBits_eq_zero_iff (arg : Half) :
    (arg &&& 0xFFFC = 0 ↔ arg.extractLsb' 2 14 = 0) ∧ (arg &&& 0xFF00 = 0 ↔ arg.extractLsb' 8 8 = 0) :=
  ⟨and_highMask_eq_zero_iff (m := 14) (n := 2) arg, and_highMask_eq_zero_iff (m := 8) (n := 8) arg⟩

/-- A row that covers a word leaves it the fields of a command with the row's mnemonic. -/
theorem exists_fields_of_covers {r : OpcodeRow} (hr : r ∈ opcodeTable) {w : CommandWord} (h : r.covers w = true) :
    ∃ i, (opField w = opcodeOf i ∧ argField w = argOf i) ∧ mnemonicOf i = r.mnemonic := by
  obtain ⟨hop, harg⟩ := (covers_iff_of_mem hr w).1 h
  obtain ⟨hseta, hsetd⟩ := reservedBits_eq_zero_iff (argField w)
  have hall : argField w &&& 0xFFFF = argField w := BitVec.and_allOnes
  simp only [opcodeTable, List.mem_cons, List.not_mem_nil, or_false] at hr
  rcases hr with rfl | rfl | rfl | rfl | rfl | rfl
  · exact ⟨.init, ⟨hop, hall.symm.trans harg⟩, rfl⟩
  · exact ⟨.seta _ _, ⟨hop, eq_setaArg_iff.2 ⟨hseta.1 harg, rfl, rfl⟩⟩, rfl⟩
  · exact ⟨.setd _, ⟨hop, eq_setdArg_iff.2 ⟨hsetd.1 harg, rfl⟩⟩, rfl⟩
  · exact ⟨.xfer, ⟨hop, hall.symm.trans harg⟩, rfl⟩
  · exact ⟨.st0 _ _, ⟨hop, eq_st0Arg_iff.2 ⟨rfl, rfl⟩⟩, rfl⟩
  · exact ⟨.delay, ⟨hop, hall.symm.trans harg⟩, rfl⟩

/-- No two rows have one mnemonic. -/
theorem row_eq_of_mnemonic_eq :
    ∀ r ∈ opcodeTable, ∀ k : Fin 6, opcodeTable[k].mnemonic = r.mnemonic → r = opcodeTable[k] := by
  decide

/-- The row with a command's mnemonic has its opcode and masks none of its operands. -/
theorem row_of_mnemonic {r : OpcodeRow} (hr : r ∈ opcodeTable) {i : Instr} (hm : mnemonicOf i = r.mnemonic) :
    opcodeOf i = opField r.pattern ∧ argOf i &&& argField r.mask = 0 := by
  obtain ⟨hseta, hsetd⟩ := reservedBits_eq_zero_iff (argOf i)
  cases i with
  | init => obtain rfl := row_eq_of_mnemonic_eq r hr 0 hm; exact ⟨rfl, rfl⟩
  | seta a1 a0 => obtain rfl := row_eq_of_mnemonic_eq r hr 1 hm; exact ⟨rfl, hseta.2 (eq_setaArg_iff.1 rfl).1⟩
  | setd data => obtain rfl := row_eq_of_mnemonic_eq r hr 2 hm; exact ⟨rfl, hsetd.2 (eq_setdArg_iff.1 rfl).1⟩
  | xfer => obtain rfl := row_eq_of_mnemonic_eq r hr 3 hm; exact ⟨rfl, rfl⟩
  | st0 lsb msb => obtain rfl := row_eq_of_mnemonic_eq r hr 4 hm; exact ⟨rfl, BitVec.and_zero⟩
  | delay => obtain rfl := row_eq_of_mnemonic_eq r hr 5 hm; exact ⟨rfl, rfl⟩

/-- A row covers exactly the words that decode to a command with the row's mnemonic. -/
theorem covers_iff_exists_decode {r : OpcodeRow} (hr : r ∈ opcodeTable) (w : CommandWord) :
    r.covers w = true ↔ ∃ i, decode w = .ok i ∧ mnemonicOf i = r.mnemonic := by
  simp only [decode_eq_ok_iff]
  constructor
  · exact exists_fields_of_covers hr
  · rintro ⟨i, ⟨hop, harg⟩, hm⟩
    rw [covers_iff_of_mem hr, hop, harg]
    exact row_of_mnemonic hr hm

theorem exists_decode_iff_legal (w : CommandWord) :
    (∃ i, decode w = .ok i) ↔ legal (opField w) (argField w) = true := by
  rw [← decode_isOk]
  cases decode w <;> simp [isOk_ok, isOk_error]

/-- The table has one row with each command's mnemonic. -/
theorem filter_mnemonic_eq (i : Instr) :
    (opcodeTable.filter (fun r => mnemonicOf i = r.mnemonic)).map (fun r => r.mnemonic) = [mnemonicOf i] := by
  cases i <;> rfl

/-- Settles O43: a row covers the words of its command, and a word is the word of at most one command. -/
theorem decodesExactlyTheLegalWords : Obligations.DecodesExactlyTheLegalWords := by
  intro w
  refine ⟨exists_decode_iff_legal w, fun i hd => ?_, fun hill => ?_⟩
  · rw [← filter_mnemonic_eq i]
    congr 1
    refine List.filter_congr fun r hr => ?_
    rw [Bool.eq_iff_iff, covers_iff_exists_decode hr, hd]
    simp
  · rw [List.filter_eq_nil_iff]
    intro r hr hcov
    obtain ⟨i, hd, -⟩ := (covers_iff_exists_decode hr w).1 hcov
    rw [legal_of_decode_ok hd] at hill
    cases hill

/-- Settles O44: seven of the words are encodings, one has a reserved opcode and one a bit that SETA does not define. -/
theorem specWordsDecodeAsWritten : Obligations.SpecWordsDecodeAsWritten :=
  ⟨decodeOfEncode .init, decodeOfEncode (.seta true true), decodeOfEncode (.seta false true),
    decodeOfEncode (.setd 0xFF), decodeOfEncode .xfer, decodeOfEncode (.st0 0x34 0x12), decodeOfEncode .delay, rfl, rfl⟩

end Sys2Proof.Machine
end

section
/-! The assembler (30_encoding.md R80, R81): a line assembles to its words when its operands are in range, and the words
are encodings. O45 and O46. -/

namespace Sys2Proof.Machine

/-! ### Lines -/

/-- A line whose operands are in range exactly when `p` holds assembles to its words, or is an error (R80). -/
theorem assemble_eq_ite {l : AsmLine} {p : Prop} [Decidable p] {r : Except AsmError (List CommandWord)}
    (h : l.wellFormed = true ↔ p) (hr : p → r = .ok (AsmLine.words l)) :
    assemble l = if p then r else .error .operandOutOfRange := by
  simp only [assemble, h]
  exact ite_congr rfl (fun hp => (hr hp).symm) fun _ => rfl

/-! ### Words -/

theorem setaWord_eq_encode {addr : Nat} (h : addr < 4) :
    encode (.seta (addr.testBit 1) (addr.testBit 0)) = setaWord addr := by
  interval_cases addr <;> rfl

/-- A byte is the same number in a word. -/
theorem setWidth_ofNat_byte {byte : Nat} (h : byte < 256) :
    (BitVec.ofNat 8 byte).setWidth 20 = BitVec.ofNat 20 byte := by
  apply BitVec.eq_of_toNat_eq
  simp only [BitVec.toNat_setWidth, BitVec.toNat_ofNat]
  omega

theorem setdWord_eq_encode {byte : Nat} (h : byte < 256) :
    encode (.setd (BitVec.ofNat 8 byte)) = setdWord byte := by
  rw [encode, setWidth_ofNat_byte h, setdWord]

theorem st0Word_eq_encode {lsb msb : Nat} (hl : lsb < 256) (hm : msb < 256) :
    encode (.st0 (BitVec.ofNat 8 lsb) (BitVec.ofNat 8 msb)) = st0Word lsb msb := by
  rw [encode, setWidth_ofNat_byte hl, setWidth_ofNat_byte hm, st0Word]

theorem wrbyteWords_eq_encode {addr byte : Nat} (ha : addr < 4) (hb : byte < 256) :
    [encode (.seta (addr.testBit 1) (addr.testBit 0)), encode (.setd (BitVec.ofNat 8 byte)), encode .xfer] =
      wrbyteWords addr byte := by
  rw [setaWord_eq_encode ha, setdWord_eq_encode hb]
  rfl

/-! ### The statements -/

/-- Settles O45, line by line: the range check, then the word. -/
theorem assembledLinesAreTheirCommands : Obligations.AssembledLinesAreTheirCommands := by
  refine ⟨fun addr => ?_, fun byte => ?_, fun lsb msb => ?_, fun w => ?_, rfl, rfl, rfl⟩
  · exact assemble_eq_ite decide_eq_true_iff fun h => by rw [setaWord_eq_encode h]; rfl
  · exact assemble_eq_ite decide_eq_true_iff fun h => by rw [setdWord_eq_encode h]; rfl
  · exact assemble_eq_ite (by simp [AsmLine.wellFormed]) fun ⟨hl, hm⟩ => by rw [st0Word_eq_encode hl hm]; rfl
  · exact assemble_eq_ite decide_eq_true_iff fun _ => rfl

/-- The divisor's low and high byte, as the assembler cuts them (R81). -/
theorem divisor_bytes (value : Nat) : value &&& 0xFF = value % 256 ∧ value >>> 8 = value / 256 :=
  ⟨Nat.and_two_pow_sub_one_eq_mod value 8, Nat.shiftRight_eq_div_pow value 8⟩

theorem assemble_wrbyte_ok {addr byte : Nat} (ha : addr < 4) (hb : byte < 256) :
    assemble (.wrbyte addr byte) = .ok (wrbyteWords addr byte) := by
  rw [assemble, if_pos (by simp [AsmLine.wellFormed, ha, hb])]
  rfl

theorem assemble_settimer0_as_st0 {value : Nat} (h : value < 65536) :
    assemble (.st0 (value % 256) (value / 256)) = .ok (AsmLine.words (.settimer0 value)) := by
  obtain ⟨hlow, hhigh⟩ := divisor_bytes value
  rw [assemble, if_pos, AsmLine.words, AsmLine.words, hlow, hhigh]
  simp only [AsmLine.wellFormed, Bool.and_eq_true, decide_eq_true_iff]
  omega

/-- The words of ST0 done slowly: the control word at the control register, then the two bytes at Timer 0. -/
theorem st0SlowWords_eq_encode {lsb msb : Nat} (hl : lsb < 256) (hm : msb < 256) :
    [encode (.seta true true), encode (.setd 0x36), encode .xfer,
      encode (.seta false false), encode (.setd (BitVec.ofNat 8 lsb)), encode .xfer,
      encode (.seta false false), encode (.setd (BitVec.ofNat 8 msb)), encode .xfer] =
      AsmLine.words (.st0Slow lsb msb) := by
  have hcontrol := wrbyteWords_eq_encode (addr := 3) (byte := 0x36) (by decide) (by decide)
  have hlsb := wrbyteWords_eq_encode (addr := 0) (by decide) hl
  have hmsb := wrbyteWords_eq_encode (addr := 0) (by decide) hm
  rw [AsmLine.words, wrctrlWords, wrt0Words, wrt0Words, ← hcontrol, ← hlsb, ← hmsb]
  rfl

/-- Settles O46, line by line: the range check, then the expansion. -/
theorem pseudoInstructionsExpand : Obligations.PseudoInstructionsExpand := by
  refine ⟨fun addr byte => ?_, fun byte => ?_, fun byte => ?_, fun value => ?_, fun lsb msb => ?_, fun n => rfl⟩
  · exact assemble_eq_ite (by simp [AsmLine.wellFormed]) fun ⟨ha, hb⟩ => by rw [wrbyteWords_eq_encode ha hb]; rfl
  · exact assemble_eq_ite decide_eq_true_iff fun h => assemble_wrbyte_ok (by decide : 3 < 4) h
  · exact assemble_eq_ite decide_eq_true_iff fun h => assemble_wrbyte_ok (by decide : 0 < 4) h
  · exact assemble_eq_ite decide_eq_true_iff assemble_settimer0_as_st0
  · exact assemble_eq_ite (by simp [AsmLine.wellFormed]) fun ⟨hl, hm⟩ => by rw [st0SlowWords_eq_encode hl hm]

end Sys2Proof.Machine
end

section
/-! The acceptance of a word (30_encoding.md R71, R75 to R77, R82): what the step in IDLE is, by what is presented.
O11 to O15. -/

namespace Sys2Proof.Machine

variable {s : State} {w : CommandWord} {i : Instr}

/-! ### The block's step in IDLE -/

theorem blockStep_of_idle (hp : s.phase = .idle) (hu : s.unreachable = false) (hr : s.currentInput.rst = false) :
    blockStep s.currentInput s = idleStep s.currentInput s := by
  simp [blockStep, phaseStep, hp, hu, hr]

theorem acceptsWord_iff :
    s.acceptsWord w ↔ (s.currentInput.cmdValid = true ∧ s.currentInput.rst = false ∧ s.phase = .idle) ∧
      s.currentInput.cmd = w := by
  rw [State.acceptsWord, accepts_iff]

/-- In the cycle that accepts a word the block's step is the word's dispatch (R71, R77). -/
theorem blockStep_of_acceptsWord (ha : s.acceptsWord w) (hu : s.unreachable = false) :
    blockStep s.currentInput s = acceptWord w s := by
  obtain ⟨⟨hv, hr, hp⟩, rfl⟩ := acceptsWord_iff.1 ha
  rw [blockStep_of_idle hp hu hr, idleStep, if_pos hv]

theorem acceptWord_of_decode (hd : decode w = .ok i) (s : State) : acceptWord w s = exec i s := by
  simp only [acceptWord, hd]

theorem acceptWord_of_illegal (hill : legal (opField w) (argField w) = false) (s : State) :
    acceptWord w s = .next (s.raise .illegal) := by
  cases hd : decode w with
  | ok i => exact nomatch hill.symm.trans (legal_of_decode_ok hd)
  | error e => simp only [acceptWord, hd]

/-! ### The statements -/

/-- Settles O11: every command but INIT stands behind the initialisation check. -/
theorem commandBeforeInitOnlySetsErrNoInit : Obligations.CommandBeforeInitOnlySetsErrNoInit := by
  intro s i hi hn
  cases i with
  | init => exact absurd rfl hi
  | seta | setd | xfer | st0 | delay => exact whenInitialised_notDone s _ hn

/-- Settles O12: the dispatch of the word is `exec` of its command, which always answers a next state. -/
theorem stepRunsTheDecodedCommand : Obligations.StepRunsTheDecodedCommand := by
  intro s w i ha hu hd
  obtain ⟨t, ht⟩ := exec_answers_next i s
  have hblock : blockStep s.currentInput s = .next t := by
    rw [blockStep_of_acceptsWord ha hu, acceptWord_of_decode hd, ht]
  rw [ht]
  exact clocksTo_of_blockStep hblock

theorem decode_of_decodeTableWord {nbits n : Nat} (h : decodeTableWord nbits n = some i) :
    decode (BitVec.ofNat 20 (n % 2 ^ nbits)) = .ok i := by
  unfold decodeTableWord decodeNat at h
  split at h
  · next hd =>
    split at hd
    · rw [hd, Option.some.inj h]
    · cases hd
  · cases h

/-- The state set up for a table word accepts it. -/
theorem withFetchWord_acceptsWord (s : State) (nbits n : Nat) :
    (s.withFetchWord nbits n).acceptsWord (BitVec.ofNat 20 (n % 2 ^ nbits)) := ⟨rfl, rfl⟩

/-- Settles O13: O12 in the state set up for the word, whose coming inputs are those of the given state. -/
theorem fetchWordIsRunNext : Obligations.FetchWordIsRunNext := fun s nbits n i hd =>
  ⟨_, rfl, stepRunsTheDecodedCommand _ _ i (withFetchWord_acceptsWord s nbits n) rfl (decode_of_decodeTableWord hd)⟩

/-- Settles O14: the dispatch of a word that does not decode raises the flag. -/
theorem illegalWordOnlySetsErrIll : Obligations.IllegalWordOnlySetsErrIll := fun s _ ha hu hill =>
  clocksTo_of_blockStep ((blockStep_of_acceptsWord ha hu).trans (acceptWord_of_illegal hill s))

/-- Settles O15. -/
theorem idleWithNoCommandChangesNothing : Obligations.IdleWithNoCommandChangesNothing := by
  intro s hp hu hr hv
  refine clocksTo_of_blockStep ?_
  rw [blockStep_of_idle hp hu hr, idleStep, if_neg (by simp [hv])]

end Sys2Proof.Machine
end

section
/-! How long a command keeps the block busy (30_encoding.md R79): the cycles that remain until IDLE are a function of
the sequencer, and every busy cycle takes one away. O27. -/

namespace Sys2Proof.Machine

variable {inp : Input} {s t : State} {w : CommandWord}

/-! ### The cycles that remain -/

/-- The cycles of a bus cycle after the given phase of it, by the lengths of the later phases (40_delay.md R92). -/
def cyclesAfter (n : Nat) : Phase → Nat
  | .xfS => 5 * n
  | .xfA => 4 * n
  | .xfB => 2 * n
  | .xfC => n
  | .xfD => 0
  | .idle => 0
  | .dl => 0
  | .unused7 => 0

/-- The cycles of the bus cycles to come after the one in progress (43_set_timer0.md R152). -/
def State.comingBytes (s : State) : Nat :=
  if s.seq = .st0 then (2 - s.byteIdx.toNat) * (5 * s.cfg.nDly + 1) else 0

/-- The cycles until the block is in IDLE: the rest of this phase, the later phases, and the bus cycles to come. -/
def State.remaining (s : State) : Nat :=
  if s.phase = .idle then 0 else s.dlyCnt + 1 + cyclesAfter s.cfg.nDly s.phase + s.comingBytes

theorem remaining_of_idle (hp : s.phase = .idle) : s.remaining = 0 := if_pos hp

theorem remaining_of_busy (hp : s.phase ≠ .idle) :
    s.remaining = s.dlyCnt + 1 + cyclesAfter s.cfg.nDly s.phase + s.comingBytes := if_neg hp

theorem remaining_eq_zero_iff : s.remaining = 0 ↔ s.phase = .idle := by
  refine ⟨fun h => ?_, remaining_of_idle⟩
  by_contra hp
  rw [remaining_of_busy hp] at h
  omega

/-- A phase just entered has its whole length before it (R91). -/
theorem remaining_enter (s : State) {p : Phase} (hp : p ≠ .idle) :
    (s.enter p).remaining = phaseLength s.cfg p + cyclesAfter s.cfg.nDly p + s.comingBytes := by
  have hlength := (phaseLength_bounds s.cfg p).1
  have hbytes : (s.enter p).comingBytes = s.comingBytes := rfl
  rw [remaining_of_busy hp, enter_dlyCnt, enter_phase, enter_cfg, hbytes]
  omega

theorem comingBytes_of_not_st0 (hq : s.seq ≠ .st0) : s.comingBytes = 0 := if_neg hq

theorem comingBytes_of_st0 (hq : s.seq = .st0) :
    s.comingBytes = (2 - s.byteIdx.toNat) * (5 * s.cfg.nDly + 1) := if_pos hq

theorem comingBytes_own_xfer (s : State) : (s.own .xfer 0).comingBytes = 0 := comingBytes_of_not_st0 (by simp)

/-- Behind its control word an ST0 has the two bytes of the divisor to come (43_set_timer0.md R151). -/
theorem comingBytes_own_st0 (s : State) : (s.own .st0 0).comingBytes = 2 * (5 * s.cfg.nDly + 1) :=
  comingBytes_of_st0 rfl

/-- XF_D ends the command when no byte is to come. -/
theorem comingBytes_of_last (hq : ¬ (s.seq = .st0 ∧ s.byteIdx < 2)) : s.comingBytes = 0 := by
  by_cases hst0 : s.seq = .st0
  · have hlast : ¬ s.byteIdx < 2 := fun hb => hq ⟨hst0, hb⟩
    have hnone : 2 - s.byteIdx.toNat = 0 := by bv_omega
    rw [comingBytes_of_st0 hst0, hnone, Nat.zero_mul]
  · exact comingBytes_of_not_st0 hst0

theorem bytesLeft_succ : ∀ {i : BitVec 2}, i < 2 → 2 - i.toNat = 2 - (i + 1).toNat + 1 := by
  decide

/-- With its next byte on the bus an ST0 has one bus cycle less to come (42_transfer.md R135). -/
theorem comingBytes_advanceByte (hq : s.seq = .st0) (hb : s.byteIdx < 2) :
    s.advanceByte.comingBytes + (5 * s.cfg.nDly + 1) = s.comingBytes := by
  have hnext : s.advanceByte.comingBytes = (2 - (s.byteIdx + 1).toNat) * (5 * s.cfg.nDly + 1) := comingBytes_of_st0 hq
  rw [hnext, comingBytes_of_st0 hq, bytesLeft_succ hb, Nat.succ_mul (2 - _)]

/-- That bus cycle, with its set-up, is now in progress. -/
theorem remaining_advanceByte (hq : s.seq = .st0) (hb : s.byteIdx < 2) : s.advanceByte.remaining = s.comingBytes := by
  have henter : s.advanceByte.remaining = 1 + 5 * s.cfg.nDly + s.advanceByte.comingBytes :=
    remaining_enter _ (by decide)
  have hnext := comingBytes_advanceByte hq hb
  omega

/-! ### A busy cycle -/

/-- The exit of a phase to the next phase of the same bus cycle. -/
theorem remaining_exit {v : State} {p : Phase} (hp : s.phase ≠ .idle) (hc : s.dlyCnt = 0) (hne : p ≠ .idle)
    (hcfg : v.cfg = s.cfg) (hbytes : v.comingBytes = s.comingBytes)
    (hlength : phaseLength s.cfg p + cyclesAfter s.cfg.nDly p = cyclesAfter s.cfg.nDly s.phase) :
    (v.enter p).remaining + 1 = s.remaining := by
  rw [remaining_enter v hne, hcfg, hbytes, hlength, remaining_of_busy hp, hc]
  omega

/-- Every busy cycle with no reset takes one away from the cycles that remain. -/
theorem Move.remaining_succ (h : Move inp s t) (hi : s.Inv) (hr : inp.rst = false) (hb : s.phase ≠ .idle) :
    t.remaining + 1 = s.remaining := by
  cases h with
  | reset h => exact nomatch h.symm.trans hr
  | wait _ hp | illegal _ hp | notInit _ hp | init _ hp | seta _ hp | setd _ hp | xfer _ hp | st0 _ hp
  | delay _ hp => exact absurd hp hb
  | count _ _ hc =>
    have hbytes : s.countDown.comingBytes = s.comingBytes := rfl
    rw [remaining_of_busy hb, remaining_of_busy (s := s.countDown) hb, hbytes, countDown_dlyCnt, countDown_phase,
      countDown_cfg]
    omega
  | exitS _ hp hc | exitA _ hp hc | exitB _ hp hc | exitC _ hp hc =>
    exact remaining_exit hb hc (by decide) rfl rfl (by simp only [hp, phaseLength, cyclesAfter]; omega)
  | nextByte _ hp hc hq hbyte =>
    rw [remaining_advanceByte hq hbyte, remaining_of_busy hb, hc, hp, cyclesAfter]
    omega
  | finish _ hp hc hq =>
    rw [remaining_of_busy hb, comingBytes_of_last hq, hc, hp, cyclesAfter, remaining_of_idle (toIdle_phase _)]
  | exitDl _ hp hc =>
    have hbytes : s.comingBytes = 0 := comingBytes_of_not_st0 (by simp [(hi.delaying hp).1])
    rw [remaining_of_busy hb, hbytes, hc, hp, cyclesAfter, remaining_of_idle (toIdle_phase _)]

/-! ### The cycle that accepts a word -/

theorem wordOccupancy_of_error {e : DecodeError} (hd : decode w = .error e) : wordOccupancy s w = 1 := by
  simp only [wordOccupancy, hd]

theorem wordOccupancy_of_ok {i : Instr} (hd : decode w = .ok i) (h : i = .init ∨ s.initDone = true) :
    wordOccupancy s w = occupancy s.cfg.nDly i := by
  simp only [wordOccupancy, hd, if_pos h]

theorem wordOccupancy_of_notInit {i : Instr} (hd : decode w = .ok i) (hi : i ≠ .init) (hn : s.initDone = false) :
    wordOccupancy s w = 1 := by
  simp [wordOccupancy, hd, hi, hn]

theorem remaining_of_one_cycle (hp : t.phase = .idle) (h : wordOccupancy s w = 1) :
    t.remaining + 1 = wordOccupancy s w := by
  rw [remaining_of_idle hp, h]

/-- The acceptance of a word is the first of its cycles, and leaves the others. -/
theorem Move.remaining_of_accepts (h : Move inp s t) (hi : s.Inv) (ha : s.accepts inp = true) :
    t.remaining + 1 = wordOccupancy s inp.cmd := by
  obtain ⟨hv, hr, hp⟩ := (accepts_iff s inp).1 ha
  cases h with
  | reset h => exact nomatch h.symm.trans hr
  | wait _ _ h => exact nomatch h.symm.trans hv
  | illegal _ _ _ e hd => exact remaining_of_one_cycle hp (wordOccupancy_of_error hd)
  | notInit _ _ _ i hd hne hn => exact remaining_of_one_cycle hp (wordOccupancy_of_notInit hd hne hn)
  | init _ _ _ hd => exact remaining_of_one_cycle hp (wordOccupancy_of_ok hd (.inl rfl))
  | seta _ _ _ hn a1 a0 hd => exact remaining_of_one_cycle hp (wordOccupancy_of_ok hd (.inr hn))
  | setd _ _ _ hn b hd => exact remaining_of_one_cycle hp (wordOccupancy_of_ok hd (.inr hn))
  | xfer _ _ _ hn hd =>
    rw [wordOccupancy_of_ok hd (.inr hn), remaining_enter _ (by decide), comingBytes_own_xfer]
    simp only [own_cfg, setCs_cfg, phaseLength, cyclesAfter, occupancy]
    omega
  | st0 _ _ _ hn lsb msb hd =>
    rw [wordOccupancy_of_ok hd (.inr hn), remaining_enter _ (by decide), comingBytes_own_st0]
    simp only [own_cfg, latchDivisor_cfg, setData_cfg, setAddr_cfg, setWr_cfg, setCs_cfg, phaseLength, cyclesAfter,
      occupancy]
    omega
  | delay _ _ _ hn hd =>
    have hbytes : s.comingBytes = 0 := comingBytes_of_not_st0 (by simp [(hi.idle hp).2.1])
    rw [wordOccupancy_of_ok hd (.inr hn), remaining_enter _ (by decide), hbytes]
    rfl
  | count _ h => simp [hp] at h
  | exitS _ h | exitA _ h | exitB _ h | exitC _ h | nextByte _ h | finish _ h | exitDl _ h =>
    exact nomatch hp.symm.trans h

/-! ### Runs -/

theorem noReset_of_le {m n : Nat} (h : s.noReset n) (hmn : m ≤ n) : s.noReset m :=
  fun k hk => h k (hk.trans_le hmn)

theorem currentInput_rst_of_noReset {n : Nat} (h : s.noReset (n + 1)) : s.currentInput.rst = false := by
  rw [currentInput_eq_inputAt]
  exact h 0 n.succ_pos

/-- A cycle from a state of the invariant is a move, and leads to a state of the invariant. -/
theorem State.Inv.exists_step (hi : s.Inv) :
    ∃ u, Move s.currentInput s u ∧ step s = .next (u.nextCycle (s.nextPit u)) ∧ (u.nextCycle (s.nextPit u)).Inv := by
  obtain ⟨t, hstep⟩ := step_answers_next (.inr hi.reachable)
  obtain ⟨u, hmove, rfl⟩ := move_of_step hstep
  exact ⟨u, hmove, hstep, (hmove.keeps_inv hi).nextCycle _⟩

theorem remaining_nextCycle (s : State) (pit : Pit) : (s.nextCycle pit).remaining = s.remaining := rfl

/-- While cycles remain and none is a reset, a run of that many cycles takes them away one by one. -/
theorem exists_reaches_of_le_remaining {n : Nat} (hi : s.Inv) (hr : s.noReset n) (hn : n ≤ s.remaining) :
    ∃ t, reaches n s t ∧ t.Inv ∧ t.remaining + n = s.remaining := by
  induction n generalizing s with
  | zero => exact ⟨s, reaches_zero.2 rfl, hi, rfl⟩
  | succ n ih =>
    obtain ⟨u, hmove, hstep, hiu⟩ := hi.exists_step
    have hbusy : s.phase ≠ .idle := by rw [Ne, ← remaining_eq_zero_iff]; omega
    have hone := hmove.remaining_succ hi (currentInput_rst_of_noReset hr) hbusy
    rw [← remaining_nextCycle u (s.nextPit u)] at hone
    obtain ⟨t, hreach, hit, hrest⟩ := ih hiu (noReset_of_step hstep hr) (by omega)
    exact ⟨t, (reaches_of_step hstep).2 hreach, hit, by omega⟩

/-- The block is ready in a cycle with no reset exactly when no cycle remains. -/
theorem cmdReady_eq_decide_remaining (s : State) : s.cmdReady false = decide (s.remaining = 0) := by
  simp [State.cmdReady, remaining_eq_zero_iff, beq_eq_decide]

/-- From a cycle that accepts a word, a run of `j ≥ 1` of its cycles leaves the others. -/
theorem exists_reaches_of_acceptsWord (hi : s.Inv) (ha : s.acceptsWord w) (hr : s.noReset (wordOccupancy s w)) {j : Nat}
    (hone : 1 ≤ j) (hj : j ≤ wordOccupancy s w) : ∃ t, reaches j s t ∧ t.remaining + j = wordOccupancy s w := by
  obtain ⟨hacc, rfl⟩ := ha
  obtain ⟨u, hmove, hstep, hiu⟩ := hi.exists_step
  have hfirst := hmove.remaining_of_accepts hi hacc
  rw [← remaining_nextCycle u (s.nextPit u)] at hfirst
  obtain ⟨k, rfl⟩ := Nat.exists_eq_succ_of_ne_zero (Nat.one_le_iff_ne_zero.1 hone)
  obtain ⟨t, hreach, -, hrest⟩ :=
    exists_reaches_of_le_remaining hiu (noReset_of_step hstep (noReset_of_le hr hj)) (by omega)
  exact ⟨t, (reaches_of_step hstep).2 hreach, by omega⟩

theorem one_le_wordOccupancy (hi : s.Inv) (ha : s.acceptsWord w) : 1 ≤ wordOccupancy s w := by
  obtain ⟨hacc, rfl⟩ := ha
  obtain ⟨u, hmove, -⟩ := hi.exists_step
  have := hmove.remaining_of_accepts hi hacc
  omega

/-- Settles O27: the acceptance leaves one cycle less than the count, and each later cycle takes one more. -/
theorem commandOccupiesTheStatedCycles : Obligations.CommandOccupiesTheStatedCycles := by
  intro s w hi ha hr
  constructor
  · intro j hone hj
    obtain ⟨t, hreach, hrest⟩ := exists_reaches_of_acceptsWord hi ha hr hone hj.le
    exact ⟨t, hreach, by rw [cmdReady_eq_decide_remaining, decide_eq_false_iff_not]; omega⟩
  · obtain ⟨t, hreach, hrest⟩ := exists_reaches_of_acceptsWord hi ha hr (one_le_wordOccupancy hi ha) le_rfl
    exact ⟨t, hreach, by rw [cmdReady_eq_decide_remaining, decide_eq_true_iff]; omega⟩

end Sys2Proof.Machine
end

section
/-! The delay counter, the DELAY command and the phases (40_delay.md R91 to R97): O18, O22, O33, O3 and O10. -/

namespace Sys2Proof.Machine

variable {inp : Input} {s t : State}

/-! ### Launch (R97, 00_scope.md R6) -/

theorem launch_of_wellFormed {p : Params} (h : p.wellFormed = true) : launch p = .next (State.resetOf ⟨p, h⟩) :=
  dif_pos h

theorem launch_of_not_wellFormed {p : Params} (h : p.wellFormed = false) : launch p = .refused .badConfiguration :=
  dif_neg (Bool.not_eq_true _ ▸ h)

/-- Parameters whose largest load truncates are not a configuration. -/
theorem wellFormed_of_truncating {p : Params} (h : 2 ^ p.wDly - 1 < 2 * p.nDly - 1) : p.wellFormed = false := by
  by_contra hwf
  have hfits : 2 * p.nDly - 1 < 2 ^ p.wDly := Config.largest_load_fits ⟨p, by simpa using hwf⟩
  omega

/-- Settles O3: a truncating counter is one of the ways not to be well formed. -/
theorem launchRefusesATruncatingCounter : Obligations.LaunchRefusesATruncatingCounter := fun _ =>
  ⟨fun h => launch_of_not_wellFormed (wellFormed_of_truncating h), launch_of_not_wellFormed, launch_of_wellFormed⟩

/-! ### The command and the counter -/

/-- Settles O10: DELAY stands behind the initialisation check. -/
theorem delayEntersItsPhase : Obligations.DelayEntersItsPhase := fun s hn => whenInitialised_done s (s.enter .dl) hn

/-- Settles O33: no phase is longer than XF_B, and the configuration has room for the load of XF_B. -/
theorem delayCounterFitsItsWidth : Obligations.DelayCounterFitsItsWidth := by
  intro s hi
  calc s.dlyCnt
    _ ≤ phaseLength s.cfg s.phase - 1 := hi.counter
    _ ≤ 2 * s.cfg.params.nDly - 1 := Nat.sub_le_sub_right (phaseLength_bounds s.cfg s.phase).2 1
    _ < 2 ^ s.cfg.params.wDly := s.cfg.largest_load_fits

/-! ### The phase after a move (R93) -/

theorem Move.phase_of_reset (h : Move inp s t) (hr : inp.rst = true) : t.phase = .idle := by
  cases h with
  | reset => rfl
  | wait h | illegal h | notInit h | init h | seta h | setd h | xfer h | st0 h | delay h | count h | exitS h | exitA h
  | exitB h | exitC h | nextByte h | finish h | exitDl h => exact nomatch hr.symm.trans h

/-- While the counter runs, a busy cycle with no reset counts down and does nothing else (R91). -/
theorem Move.eq_countDown (h : Move inp s t) (hr : inp.rst = false) (hb : s.phase ≠ .idle) (hc : s.dlyCnt ≠ 0) :
    t = s.countDown := by
  cases h with
  | count => rfl
  | reset h => exact nomatch hr.symm.trans h
  | wait _ hp | illegal _ hp | notInit _ hp | init _ hp | seta _ hp | setd _ hp | xfer _ hp | st0 _ hp
  | delay _ hp => exact absurd hp hb
  | exitS _ _ h | exitA _ _ h | exitB _ _ h | exitC _ _ h | nextByte _ _ h | finish _ _ h | exitDl _ _ h =>
    exact absurd h hc

/-- R93's successor of a timed phase. IDLE and the unreachable encoding have no exit; they get IDLE. -/
def State.exitPhase (s : State) : Phase :=
  match s.phase with
  | .xfS => .xfA
  | .xfA => .xfB
  | .xfB => .xfC
  | .xfC => .xfD
  | .xfD => if s.seq = .st0 ∧ s.byteIdx < 2 then .xfS else .idle
  | .dl => .idle
  | .idle => .idle
  | .unused7 => .idle

/-- With the counter at 0, a busy cycle with no reset leads to the phase's successor. -/
theorem Move.phase_of_exit (h : Move inp s t) (hr : inp.rst = false) (hb : s.phase ≠ .idle) (hc : s.dlyCnt = 0) :
    t.phase = s.exitPhase := by
  cases h with
  | reset h => exact nomatch hr.symm.trans h
  | wait _ hp | illegal _ hp | notInit _ hp | init _ hp | seta _ hp | setd _ hp | xfer _ hp | st0 _ hp
  | delay _ hp => exact absurd hp hb
  | count _ _ h => exact absurd hc h
  | exitS _ hp | exitA _ hp | exitB _ hp | exitC _ hp | exitDl _ hp => simp [State.exitPhase, hp]
  | nextByte _ hp _ hq hbyte =>
    simp only [State.exitPhase, hp, if_pos (And.intro hq hbyte)]
    rfl
  | finish _ hp _ hq => simp only [State.exitPhase, hp, if_neg hq, toIdle_phase]

theorem exitPhase_ne_phase (hp : s.phase = .xfS ∨ s.phase.inBusCycle = true ∨ s.phase = .dl) :
    s.exitPhase ≠ s.phase := by
  unfold State.exitPhase
  cases hphase : s.phase with
  | xfD => dsimp only; split <;> decide
  | idle | unused7 => simp [hphase] at hp
  | xfS | xfA | xfB | xfC | dl => exact Phase.noConfusion

/-- The phase that a decoded word, accepted after INIT, enters from IDLE. -/
def decodedPhase : Except DecodeError Instr → Phase
  | .ok .xfer => .xfA
  | .ok (.st0 _ _) => .xfS
  | .ok .delay => .dl
  | .ok .init => .idle
  | .ok (.seta _ _) => .idle
  | .ok (.setd _) => .idle
  | .error _ => .idle

theorem decodedPhase_eq_idle {r : Except DecodeError Instr} (hx : r ≠ .ok .xfer) (hd : r ≠ .ok .delay)
    (hs : ∀ l m, r ≠ .ok (.st0 l m)) : decodedPhase r = .idle := by
  cases r with
  | error => rfl
  | ok i =>
    cases i with
    | init | seta | setd => rfl
    | xfer => exact absurd rfl hx
    | st0 l m => exact absurd rfl (hs l m)
    | delay => exact absurd rfl hd

/-- With no reset, IDLE is left only for the phase of a word presented after INIT. -/
theorem Move.phase_of_idle (h : Move inp s t) (hr : inp.rst = false) (hp : s.phase = .idle) :
    t.phase = if inp.cmdValid = true ∧ s.initDone = true then decodedPhase (decode inp.cmd) else .idle := by
  cases h with
  | reset h => exact nomatch hr.symm.trans h
  | wait _ _ hv => simp [hv, hp]
  | notInit _ _ _ i _ _ hn => simp [hn, hp]
  | illegal _ _ _ e hd => simp [decodedPhase, hd, hp]
  | init _ _ _ hd | seta _ _ _ _ a1 a0 hd | setd _ _ _ _ b hd => simp [decodedPhase, hd, hp]
  | xfer _ _ hv hn hd | st0 _ _ hv hn l m hd | delay _ _ hv hn hd => simp [decodedPhase, hv, hn, hd]
  | count _ h => simp [hp] at h
  | exitS _ h | exitA _ h | exitB _ h | exitC _ h | nextByte _ h | finish _ h | exitDl _ h =>
    exact nomatch hp.symm.trans h

theorem Move.phase_of_accepts (h : Move inp s t) (ha : s.accepts inp = true) (hn : s.initDone = true) :
    t.phase = decodedPhase (decode inp.cmd) := by
  obtain ⟨hv, hr, hp⟩ := (accepts_iff s inp).1 ha
  rw [h.phase_of_idle hr hp, if_pos ⟨hv, hn⟩]

theorem Move.phase_of_no_effect (h : Move inp s t) (hr : inp.rst = false) (hp : s.phase = .idle)
    (hno : inp.cmdValid = false ∨ s.initDone = false ∨ decodedPhase (decode inp.cmd) = .idle) : t.phase = .idle := by
  rw [h.phase_of_idle hr hp]
  rcases hno with hno | hno | hno <;> simp [hno]

/-- Settles O22, by what R93's rows speak of: the counter, the exits of the timed phases, and IDLE. -/
theorem phaseSuccessorsAreTheTable : Obligations.PhaseSuccessorsAreTheTable := by
  intro s t _ hstep
  obtain ⟨u, hmove, rfl⟩ := move_of_step hstep
  refine ⟨hmove.phase_of_reset, fun hr => ⟨fun hb hc => ?counting, fun hc => ?exits, fun hp => ?idle⟩⟩
  case counting =>
    obtain rfl := hmove.eq_countDown hr hb hc
    rfl
  case exits =>
    have hexit (hb : s.phase ≠ .idle) := hmove.phase_of_exit hr hb hc
    refine ⟨?_, ?_, ?_, ?_, ?_, ?_⟩ <;> intro hp <;> simpa [hp, State.exitPhase] using hexit
  case idle =>
    have haccept := hmove.phase_of_accepts
    refine ⟨fun ha hn hd => (haccept ha hn).trans (congrArg decodedPhase hd),
      fun l m ha hn hd => (haccept ha hn).trans (congrArg decodedPhase hd),
      fun ha hn hd => (haccept ha hn).trans (congrArg decodedPhase hd), fun hno => ?_⟩
    exact hmove.phase_of_no_effect hr hp
      (hno.imp_right (Or.imp_right fun ⟨hx, hd, hs⟩ => decodedPhase_eq_idle hx hd hs))

/-! ### How long a phase lasts (R91) -/

theorem reaches_one : reaches 1 s t ↔ step s = .next t := by
  simp [reaches_succ, reaches_zero]

theorem inputAt_of_reaches {n : Nat} (h : reaches n s t) (k : Nat) : t.inputAt k = s.inputAt (k + n) := by
  induction n generalizing s with
  | zero => rw [reaches_zero.1 h, Nat.add_zero]
  | succ n ih =>
    obtain ⟨v, hstep, hrest⟩ := reaches_succ.1 h
    rw [ih hrest, inputAt_of_step hstep, Nat.add_assoc]

theorem noReset_of_reaches {m n : Nat} (h : reaches n s t) (hr : s.noReset (m + n)) : t.noReset m := fun k hk => by
  rw [inputAt_of_reaches h]
  exact hr (k + n) (by omega)

/-- While the counter runs, a cycle with no reset is the countdown and the clock edge. -/
theorem step_counting (hb : s.phase ≠ .idle) (hu : s.unreachable = false) (hr : s.currentInput.rst = false)
    (hc : s.dlyCnt ≠ 0) : ∃ pit, step s = .next (s.countDown.nextCycle pit) := by
  obtain ⟨t, hstep⟩ := step_answers_next (.inr hu)
  obtain ⟨u, hmove, rfl⟩ := move_of_step hstep
  obtain rfl := hmove.eq_countDown hr hb hc
  exact ⟨_, hstep⟩

/-- A run of no more cycles than the counter reads stays in its phase and counts each of them down. -/
theorem exists_reaches_of_le_dlyCnt {n : Nat} (hb : s.phase ≠ .idle) (hu : s.unreachable = false) (hr : s.noReset n)
    (hn : n ≤ s.dlyCnt) :
    ∃ t, reaches n s t ∧ t.phase = s.phase ∧ t.dlyCnt = s.dlyCnt - n ∧ t.unreachable = false := by
  induction n generalizing s with
  | zero => exact ⟨s, reaches_zero.2 rfl, rfl, rfl, hu⟩
  | succ n ih =>
    obtain ⟨pit, hstep⟩ := step_counting hb hu (currentInput_rst_of_noReset hr) (by omega)
    obtain ⟨t, hreach, hphase, hcount, hut⟩ := ih (s := s.countDown.nextCycle pit) hb hu (noReset_of_step hstep hr)
      (by rw [nextCycle_dlyCnt, countDown_dlyCnt]; omega)
    refine ⟨t, (reaches_of_step hstep).2 hreach, hphase, ?_, hut⟩
    rw [hcount, nextCycle_dlyCnt, countDown_dlyCnt]
    omega

/-- With the counter at 0, a timed phase is left in the next cycle with no reset. -/
theorem exists_step_exit (hp : s.phase = .xfS ∨ s.phase.inBusCycle = true ∨ s.phase = .dl)
    (hu : s.unreachable = false) (hr : s.currentInput.rst = false) (hc : s.dlyCnt = 0) :
    ∃ t, step s = .next t ∧ t.phase ≠ s.phase := by
  obtain ⟨t, hstep⟩ := step_answers_next (.inr hu)
  obtain ⟨u, hmove, rfl⟩ := move_of_step hstep
  have hexit : u.phase = s.exitPhase := hmove.phase_of_exit hr (by rintro h; simp [h] at hp) hc
  exact ⟨_, hstep, hexit ▸ exitPhase_ne_phase hp⟩

/-- Settles O18: the counter of a phase just entered reads one less than its length, and the last cycle is the exit. -/
theorem timedPhaseLastsItsLength : Obligations.TimedPhaseLastsItsLength := by
  intro s hp hu hc hr
  have hb : s.phase ≠ .idle := by rintro h; simp [h] at hp
  have hlength : phaseLength s.cfg s.phase = 1 + s.dlyCnt := by
    have := (phaseLength_bounds s.cfg s.phase).1
    omega
  constructor
  · intro j hj
    obtain ⟨t, hreach, hphase, hcount, -⟩ := exists_reaches_of_le_dlyCnt hb hu (noReset_of_le hr hj.le) (by omega)
    exact ⟨t, hreach, hphase, hc ▸ hcount⟩
  · rw [hlength] at hr ⊢
    obtain ⟨t, hreach, hphase, hcount, hut⟩ :=
      exists_reaches_of_le_dlyCnt hb hu (noReset_of_le hr (Nat.le_add_left _ 1)) le_rfl
    obtain ⟨u, hstep, hleft⟩ := exists_step_exit (hphase ▸ hp) hut
      (currentInput_rst_of_noReset (noReset_of_reaches hreach hr)) (by rw [hcount, Nat.sub_self])
    exact ⟨u, Nat.add_comm _ 1 ▸ reaches_trans hreach (reaches_one.2 hstep), hphase ▸ hleft⟩

end Sys2Proof.Machine
end

section
/-! INIT, SETA and SETD (41_init_lines.md R110 to R121): O4 to O7. -/

namespace Sys2Proof.Machine

variable {s : State}

/-! ### The acceptance steps -/

/-- Settles O5: the writes of R111, one after the other, are one update of the state. -/
theorem initDrivesIdleAndSetsInitDone : Obligations.InitDrivesIdleAndSetsInitDone := fun _ => rfl

/-- Settles O6: SETA stands behind the initialisation check. -/
theorem setaWritesTheAddressLatches : Obligations.SetaWritesTheAddressLatches := fun s a1 a0 hn =>
  whenInitialised_done s (s.setAddr a1 a0) hn

/-- Settles O7: SETD stands behind the initialisation check. -/
theorem setdWritesTheDataLatch : Obligations.SetdWritesTheDataLatch := fun s data hn =>
  whenInitialised_done s (s.setData data) hn

/-! ### The cycle that accepts INIT -/

/-- The cycle that accepts INIT's word is INIT's acceptance step with the clock edge around it (R77, R111). -/
theorem clocksTo_of_acceptsWord_init (ha : s.acceptsWord (encode .init)) (hu : s.unreachable = false) :
    clocksTo s { s with
      oe := true, csN := true, wrN := true, a0 := true, a1 := true, d := 0x00, initDone := true, errIll := false,
      errNoInit := false } := by
  have hstep := stepRunsTheDecodedCommand s _ .init ha hu (decodeOfEncode .init)
  rwa [initDrivesIdleAndSetsInitDone s] at hstep

theorem drives_data_of_zero (ho : s.oe = true) (hd : s.d = 0x00) (i : Fin 8) : s.drives (.d i) = some false := by
  simp [drives_of_enabled ho, State.latch, hd]

theorem status_of_initialised (hp : s.phase = .idle) (hn : s.initDone = true) (hill : s.errIll = false)
    (hno : s.errNoInit = false) : s.status = 0b0010 := by
  simp [State.status, State.busy, hp, hn, hill, hno]

/-- Settles O4: the reset state waits in IDLE in cycle 0, so it accepts the word, and the outputs INIT enables carry the
latches INIT writes. -/
theorem firstInitTakesTheLines : Obligations.FirstInitTakesTheLines := by
  intro c
  have haccepts : ((State.resetOf c).withFetchWord 24 0x10000).acceptsWord (encode .init) :=
    withFetchWord_acceptsWord (State.resetOf c) 24 0x10000
  exact ⟨_, clocksTo_of_acceptsWord_init haccepts rfl, drives_of_enabled rfl _, drives_of_enabled rfl _,
    drives_of_enabled rfl _, drives_of_enabled rfl _, drives_data_of_zero rfl rfl, status_of_initialised rfl rfl rfl rfl,
    rfl, rfl⟩

end Sys2Proof.Machine
end

section
/-! XFER and the phases of a bus cycle (42_transfer.md R130 to R140): the step of each phase, and what holds from an
XFER's acceptance to its end. O8, O19 to O21, O23 and O24. -/

namespace Sys2Proof.Machine

variable {s t u : State} {inp : Input} {j : Nat}

/-! ### The steps of the phases -/

/-- The effect of XFER's acceptance (R130). -/
def State.acceptXfer (s : State) : State := ((s.setCs false).own .xfer 0).enter .xfA

theorem exec_xfer (hn : s.initDone = true) : exec .xfer s = .next s.acceptXfer := whenInitialised_done s _ hn

/-- Settles O8: the writes of R130, one after the other, are one update of the state. -/
theorem xferAssertsChipSelect : Obligations.XferAssertsChipSelect := fun _ => exec_xfer

/-- With no reset and no unreachable encoding, a clock cycle is the step of the phase (40_delay.md R90). -/
theorem clocksTo_of_phaseStep (hu : s.unreachable = false) (hr : s.currentInput.rst = false)
    (h : phaseStep s.currentInput s = .next t) : clocksTo s t := by
  refine clocksTo_of_blockStep ?_
  rwa [blockStep, if_neg (by simp [hr]), if_neg (by simp [hu])]

theorem phaseStep_of_xfS (hp : s.phase = .xfS) : phaseStep inp s = .next (xfSStep s) := by simp only [phaseStep, hp]

theorem phaseStep_of_xfA (hp : s.phase = .xfA) : phaseStep inp s = .next (xfAStep s) := by simp only [phaseStep, hp]

theorem phaseStep_of_xfB (hp : s.phase = .xfB) : phaseStep inp s = .next (xfBStep s) := by simp only [phaseStep, hp]

theorem phaseStep_of_xfC (hp : s.phase = .xfC) : phaseStep inp s = .next (xfCStep s) := by simp only [phaseStep, hp]

theorem phaseStep_of_xfD (hp : s.phase = .xfD) : phaseStep inp s = .next (xfDStep s) := by simp only [phaseStep, hp]

theorem phaseStep_of_dl (hp : s.phase = .dl) : phaseStep inp s = .next (dlStep s) := by simp only [phaseStep, hp]

/-- The write on the latches, with its address as R51 numbers it. -/
theorem busWrite_eq_ofNat (s : State) :
    s.busWrite = ⟨BitVec.ofNat 2 (2 * s.a1.toNat + s.a0.toNat), s.d⟩ := by
  rw [State.busWrite, addressOf_eq_ofNat]

/-- Settles O19: both phases are timed (R91), with the exits of R131 and R132. -/
theorem setupAndSelectSteps : Obligations.SetupAndSelectSteps := fun _ hu hr =>
  ⟨fun hp => clocksTo_of_phaseStep hu hr (phaseStep_of_xfS hp),
    fun hp => clocksTo_of_phaseStep hu hr (phaseStep_of_xfA hp)⟩

/-- Settles O20: XF_B is timed (R91), and its exit emits the write on the latches. -/
theorem strobeStepEmitsTheWrite : Obligations.StrobeStepEmitsTheWrite := by
  intro s hu hr hp
  rw [← busWrite_eq_ofNat]
  exact clocksTo_of_phaseStep hu hr (phaseStep_of_xfB hp)

/-- In every timed phase a running counter counts down, and the cycle does nothing else (R91). -/
theorem clocksTo_countDown (hu : s.unreachable = false) (hr : s.currentInput.rst = false) (hb : s.phase ≠ .idle)
    (hc : s.dlyCnt ≠ 0) : clocksTo s s.countDown := by
  obtain ⟨t, ht⟩ := blockStep_answers_next (.inr hu)
  obtain rfl := (move_of_blockStep ht).eq_countDown hr hb hc
  exact clocksTo_of_blockStep ht

/-- The step of a timed phase with the counter at 0 is its exit (R91). -/
theorem clocksTo_exit (hu : s.unreachable = false) (hr : s.currentInput.rst = false) (hc : s.dlyCnt = 0)
    (h : phaseStep s.currentInput s = .next (s.timed t)) : clocksTo s t :=
  clocksTo_of_phaseStep hu hr (timed_exit s t hc ▸ h)

/-- At XF_D's exit an ST0 with a byte to come starts it (R135). -/
theorem clocksTo_advanceByte (hu : s.unreachable = false) (hr : s.currentInput.rst = false) (hc : s.dlyCnt = 0)
    (hp : s.phase = .xfD) (hq : s.seq = .st0) (hb : s.byteIdx < 2) : clocksTo s s.advanceByte := by
  refine clocksTo_exit hu hr hc ?_
  rw [phaseStep_of_xfD hp, xfDStep, if_pos ⟨hq, hb⟩]

/-- At XF_D's exit any other command ends (R135). -/
theorem clocksTo_finish (hu : s.unreachable = false) (hr : s.currentInput.rst = false) (hc : s.dlyCnt = 0)
    (hp : s.phase = .xfD) (hq : ¬ (s.seq = .st0 ∧ s.byteIdx < 2)) : clocksTo s (s.own .none 0).toIdle := by
  refine clocksTo_exit hu hr hc ?_
  rw [phaseStep_of_xfD hp, xfDStep, if_neg hq]

theorem advanceByte_of_controlWord (hb : s.byteIdx = 0) :
    s.advanceByte = { s with
      byteIdx := 1, a1 := false, a0 := false, d := s.div.extractLsb' 0 8, phase := .xfS, dlyCnt := 0 } := by
  rw [State.advanceByte, State.nextDivisorByte, if_pos hb, hb]
  rfl

theorem advanceByte_of_lsb (hb : s.byteIdx = 1) :
    s.advanceByte = { s with
      byteIdx := 2, a1 := false, a0 := false, d := s.div.extractLsb' 8 8, phase := .xfS, dlyCnt := 0 } := by
  rw [State.advanceByte, State.nextDivisorByte, if_neg (by simp [hb]), hb]
  rfl

/-- Settles O21: a count, or the exit of each phase; XF_D's exit by the owner and the byte. -/
theorem holdRecoveryAndDelaySteps : Obligations.HoldRecoveryAndDelaySteps := by
  intro s hu hr
  refine ⟨fun hc hp => ?count, fun hc hp => ?exitC, fun hc hp hq hb => ?lsb, fun hc hp hq hb => ?msb,
    fun hc hp hlast => ?finish, fun hc hp => ?exitDl⟩
  case count => exact clocksTo_countDown hu hr (by rintro h; simp [h] at hp) hc
  case exitC => exact clocksTo_exit hu hr hc (phaseStep_of_xfC hp)
  case lsb => exact advanceByte_of_controlWord hb ▸ clocksTo_advanceByte hu hr hc hp hq (by simp [hb])
  case msb => exact advanceByte_of_lsb hb ▸ clocksTo_advanceByte hu hr hc hp hq (by simp [hb])
  case finish => exact clocksTo_finish hu hr hc hp hlast
  case exitDl => exact clocksTo_exit hu hr hc (phaseStep_of_dl hp)

/-! ### The schedule of a bus cycle (R137) -/

/-- In these phases of an XFER, and at its end, the write is in the event log (R133). -/
def Phase.written : Phase → Bool
  | .xfC => true
  | .xfD => true
  | .idle => true
  | .xfS => false
  | .xfA => false
  | .xfB => false
  | .dl => false
  | .unused7 => false

/-- CS# is low for `4*N_DLY` cycles. -/
theorem busCyclePhase_selected_iff {n r : Nat} :
    busCyclePhase n r = .xfA ∨ busCyclePhase n r = .xfB ∨ busCyclePhase n r = .xfC ↔ r ≤ 4 * n := by
  unfold busCyclePhase
  split_ifs <;> simp <;> omega

/-- WR# is low for `2*N_DLY` cycles. -/
theorem busCyclePhase_eq_xfB_iff {n r : Nat} : busCyclePhase n r = .xfB ↔ n < r ∧ r ≤ 3 * n := by
  unfold busCyclePhase
  split_ifs <;> simp <;> omega

theorem busCyclePhase_written {n r : Nat} : (busCyclePhase n r).written = decide (3 * n < r) := by
  unfold busCyclePhase
  split_ifs <;> simp [Phase.written] <;> omega

theorem busCyclePhase_end (n : Nat) : busCyclePhase n (5 * n + 1) = .idle := by
  rw [busCyclePhase, if_neg (by omega), if_neg (by omega), if_neg (by omega), if_neg (by omega)]

/-- The phase of a bus cycle, by the cycles that remain of it, is the one the schedule has then (R91, R92). -/
theorem busCyclePhase_of_remaining {c : Config} {p : Phase} {k r : Nat} (hp : p.inBusCycle = true)
    (hk : k ≤ phaseLength c p - 1) (hr : k + 1 + cyclesAfter c.nDly p + r = 5 * c.nDly + 1) :
    busCyclePhase c.nDly r = p := by
  have hn : 1 ≤ c.nDly := c.one_le_nDly
  cases p with
  | idle | xfS | dl | unused7 => exact nomatch hp
  | xfA =>
    simp only [phaseLength, cyclesAfter] at hk hr
    rw [busCyclePhase, if_pos (by omega)]
  | xfB =>
    simp only [phaseLength, cyclesAfter] at hk hr
    rw [busCyclePhase, if_neg (by omega), if_pos (by omega)]
  | xfC =>
    simp only [phaseLength, cyclesAfter] at hk hr
    rw [busCyclePhase, if_neg (by omega), if_neg (by omega), if_pos (by omega)]
  | xfD =>
    simp only [phaseLength, cyclesAfter] at hk hr
    rw [busCyclePhase, if_neg (by omega), if_neg (by omega), if_neg (by omega), if_pos (by omega)]

/-! ### An XFER in progress -/

/-- `t` is a cycle of the XFER accepted in `s`, or the first one after it: an XFER owns the bus, the address and the
data are those of the acceptance, and the write of them is emitted with XF_B's exit. -/
structure Transferring (s t : State) : Prop where
  inv : t.Inv
  cfg : t.cfg = s.cfg
  initDone : t.initDone = true
  place : (t.phase.inBusCycle = true ∧ t.seq = .xfer) ∨ t.phase = .idle
  address : t.a1 = s.a1 ∧ t.a0 = s.a0
  data : t.d = s.d
  events : t.events = s.events ++ if t.phase.written then [s.busWrite] else []

theorem Transferring.nextCycle (h : Transferring s t) (pit : Pit) : Transferring s (t.nextCycle pit) :=
  ⟨h.inv.nextCycle pit, h.cfg, h.initDone, h.place, h.address, h.data, h.events⟩

theorem Transferring.busWrite_eq (h : Transferring s t) : t.busWrite = s.busWrite := by
  obtain ⟨ha1, ha0⟩ := h.address
  rw [State.busWrite, ha1, ha0, h.data, State.busWrite]

theorem Transferring.busy (h : Transferring s t) (hb : t.phase ≠ .idle) :
    t.phase.inBusCycle = true ∧ t.seq = .xfer := h.place.resolve_right hb

/-- Every busy cycle of an XFER with no reset leads to another, or to its end. -/
theorem Move.keeps_transferring (hm : Move inp t u) (h : Transferring s t) (hr : inp.rst = false)
    (hb : t.phase ≠ .idle) : Transferring s u := by
  obtain ⟨hcycle, hq⟩ := h.busy hb
  have hiu := hm.keeps_inv h.inv
  have hevents := h.events
  cases hm with
  | reset hrst => exact nomatch hrst.symm.trans hr
  | wait _ hp | illegal _ hp | notInit _ hp | init _ hp | seta _ hp | setd _ hp | xfer _ hp | st0 _ hp
  | delay _ hp => exact absurd hp hb
  | exitS _ hp | exitDl _ hp => simp [hp] at hcycle
  | nextByte _ _ _ hst0 => exact nomatch hq.symm.trans hst0
  | count => exact ⟨hiu, h.cfg, h.initDone, h.place, h.address, h.data, hevents⟩
  | exitB _ hp =>
    rw [hp] at hevents
    refine ⟨hiu, h.cfg, h.initDone, .inl ⟨rfl, hq⟩, h.address, h.data, ?_⟩
    simp [hevents, h.busWrite_eq, Phase.written]
  | exitA _ hp | exitC _ hp =>
    rw [hp] at hevents
    exact ⟨hiu, h.cfg, h.initDone, .inl ⟨rfl, hq⟩, h.address, h.data, hevents⟩
  | finish _ hp =>
    rw [hp] at hevents
    exact ⟨hiu, h.cfg, h.initDone, .inr rfl, h.address, h.data, hevents⟩

/-- A run of no more cycles than remain of an XFER, with no reset, takes them away one by one and stays in it. -/
theorem Transferring.exists_reaches {n : Nat} (h : Transferring s t) (hr : t.noReset n) (hn : n ≤ t.remaining) :
    ∃ u, reaches n t u ∧ Transferring s u ∧ u.remaining + n = t.remaining := by
  induction n generalizing t with
  | zero => exact ⟨t, reaches_zero.2 rfl, h, rfl⟩
  | succ n ih =>
    obtain ⟨v, hmove, hstep, -⟩ := h.inv.exists_step
    have hbusy : t.phase ≠ .idle := by rw [Ne, ← remaining_eq_zero_iff]; omega
    have hrst := currentInput_rst_of_noReset hr
    have hone := hmove.remaining_succ h.inv hrst hbusy
    rw [← remaining_nextCycle v (t.nextPit v)] at hone
    obtain ⟨u, hreach, hu, hrest⟩ :=
      ih ((hmove.keeps_transferring h hrst hbusy).nextCycle _) (noReset_of_step hstep hr) (by omega)
    exact ⟨u, (reaches_of_step hstep).2 hreach, hu, by omega⟩

/-- The cycles that remain of an XFER say which phase of the schedule it is in. -/
theorem Transferring.phase_eq (h : Transferring s t) (hj : t.remaining + j = 5 * s.cfg.nDly + 1) :
    t.phase = busCyclePhase s.cfg.nDly j := by
  by_cases hb : t.phase = .idle
  · obtain rfl : j = 5 * s.cfg.nDly + 1 := by rwa [remaining_of_idle hb, Nat.zero_add] at hj
    rw [hb, busCyclePhase_end]
  · obtain ⟨hcycle, hq⟩ := h.busy hb
    rw [remaining_of_busy hb, comingBytes_of_not_st0 (by simp [hq]), Nat.add_zero] at hj
    rw [← h.cfg] at hj ⊢
    exact (busCyclePhase_of_remaining hcycle h.inv.counter hj).symm

/-! ### From the acceptance to the end -/

/-- The cycle that accepts XFER's word is XFER's acceptance step with the clock edge around it (R77, R130). -/
theorem clocksTo_of_acceptsWord_xfer (hn : s.initDone = true) (ha : s.acceptsWord (encode .xfer))
    (hu : s.unreachable = false) : clocksTo s s.acceptXfer := by
  have hstep := stepRunsTheDecodedCommand s _ .xfer ha hu (decodeOfEncode .xfer)
  rwa [exec_xfer hn] at hstep

/-- Behind its acceptance an XFER has five delay units before it (R137). -/
theorem remaining_acceptXfer (s : State) : s.acceptXfer.remaining = 5 * s.cfg.nDly := by
  rw [State.acceptXfer, remaining_enter _ (by decide), comingBytes_own_xfer]
  simp only [own_cfg, setCs_cfg, phaseLength, cyclesAfter]
  omega

/-- `j` cycles after its acceptance, with no reset, an XFER is in the phase of its schedule. -/
theorem exists_reaches_of_xfer (hi : s.Inv) (hn : s.initDone = true) (ha : s.acceptsWord (encode .xfer)) (hone : 1 ≤ j)
    (hj : j ≤ 5 * s.cfg.nDly + 1) (hr : s.noReset j) :
    ∃ t, reaches j s t ∧ Transferring s t ∧ t.phase = busCyclePhase s.cfg.nDly j := by
  have hstep := clocksTo_of_acceptsWord_xfer hn ha hi.reachable
  have hfirst := remaining_acceptXfer s
  have hstart : Transferring s (s.acceptXfer.nextCycle (s.nextPit s.acceptXfer)) :=
    ⟨everyStepKeepsTheInvariant _ _ hi hstep, rfl, hn, .inl ⟨rfl, rfl⟩, ⟨rfl, rfl⟩, rfl, (List.append_nil _).symm⟩
  obtain ⟨k, rfl⟩ := Nat.exists_eq_add_of_le' hone
  obtain ⟨t, hreach, ht, hrest⟩ :=
    hstart.exists_reaches (noReset_of_step hstep hr) (by rw [remaining_nextCycle]; omega)
  rw [remaining_nextCycle] at hrest
  exact ⟨t, (reaches_of_step hstep).2 hreach, ht, ht.phase_eq (by omega)⟩

/-- Settles O23: the phase is that of the schedule, the lines follow it by the invariant, and the rest is what stays
during an XFER. -/
theorem xferRunsItsSchedule : Obligations.XferRunsItsSchedule := by
  intro s j hi hn ha hone hj hr
  obtain ⟨t, hreach, ht, hphase⟩ := exists_reaches_of_xfer hi hn ha hone hj hr
  obtain ⟨ha1, ha0⟩ := ht.address
  have hcs : t.csN = false ↔ j ≤ 4 * s.cfg.nDly := by
    rw [ht.inv.chipSelect, hphase, busCyclePhase_selected_iff]
  have hwr : t.wrN = false ↔ s.cfg.nDly < j ∧ j ≤ 3 * s.cfg.nDly := by
    rw [ht.inv.writeStrobe, hphase, busCyclePhase_eq_xfB_iff]
  have hevents := ht.events
  simp only [hphase, busCyclePhase_written, decide_eq_true_eq] at hevents
  exact ⟨t, hreach, hphase, hcs, hwr, ha1, ha0, ht.data, ht.inv.enabled.trans ht.initDone, hevents⟩

/-- A whole XFER ends in IDLE with its write in the event log. -/
theorem exists_reaches_end_of_xfer (hi : s.Inv) (hn : s.initDone = true) (ha : s.acceptsWord (encode .xfer))
    (hr : s.noReset (5 * s.cfg.nDly + 1)) :
    ∃ t, reaches (5 * s.cfg.nDly + 1) s t ∧ Transferring s t ∧ t.phase = .idle ∧
      t.events = s.events ++ [s.busWrite] := by
  obtain ⟨t, hreach, ht, hphase⟩ := exists_reaches_of_xfer hi hn ha (Nat.le_add_left 1 _) le_rfl hr
  rw [busCyclePhase_end] at hphase
  exact ⟨t, hreach, ht, hphase, by rw [ht.events, hphase]; rfl⟩

/-- In IDLE a word on the port is accepted in a cycle with no reset (R71). -/
theorem acceptsWord_of_idle {w : CommandWord} (hp : s.phase = .idle) (hr : (s.inputAt 0).rst = false)
    (hv : (s.inputAt 0).cmdValid = true) (hw : (s.inputAt 0).cmd = w) : s.acceptsWord w := by
  rw [← currentInput_eq_inputAt] at hr hv hw
  exact acceptsWord_iff.2 ⟨⟨hv, hr, hp⟩, hw⟩

/-- Settles O24: each XFER ends in IDLE, where the next word on the port is accepted, with one more write of the same
latches in the event log. -/
theorem backToBackXfersAreTwoWrites : Obligations.BackToBackXfersAreTwoWrites := by
  intro s hi hn hp hheld
  have hreset : s.noReset (2 * (5 * s.cfg.nDly + 1)) := fun k hk => (hheld k hk).1
  obtain ⟨hr0, hv0, hw0⟩ := hheld 0 (by omega)
  obtain ⟨t, hreach, ht, hidle, hevents⟩ := exists_reaches_end_of_xfer hi hn (acceptsWord_of_idle hp hr0 hv0 hw0)
    (noReset_of_le hreset (by omega))
  obtain ⟨hr1, hv1, hw1⟩ : (t.inputAt 0).rst = false ∧ (t.inputAt 0).cmdValid = true ∧ (t.inputAt 0).cmd = 0x40000 := by
    rw [inputAt_of_reaches hreach]
    exact hheld _ (by omega)
  have haccepts : t.acceptsWord 0x40000 := acceptsWord_of_idle hidle hr1 hv1 hw1
  rw [Nat.two_mul] at hreset ⊢
  obtain ⟨u, hreach', -, hidle', hevents'⟩ := exists_reaches_end_of_xfer ht.inv ht.initDone haccepts
    (ht.cfg ▸ noReset_of_reaches hreach hreset)
  rw [ht.cfg] at hreach'
  rw [ht.busWrite_eq, hevents, List.append_assoc] at hevents'
  exact ⟨⟨t, hreach, hidle, haccepts⟩, u, reaches_trans hreach hreach', hidle', hevents'⟩

end Sys2Proof.Machine
end

section
/-! ST0, the load of the Timer 0 divisor (43_set_timer0.md R150 to R156): its acceptance, the byte it has on the bus,
and what holds from its acceptance to its end. O9, O34, O25 and O26. -/

namespace Sys2Proof.Machine

variable {s t u : State} {inp : Input} {lsb msb : Byte} {i j n o : Nat}

/-! ### The acceptance (R151) -/

/-- The effect of ST0's acceptance (R151). -/
def State.acceptSt0 (s : State) (lsb msb : Byte) : State :=
  ((((((s.setCs true).setWr true).setAddr true true).setData controlWord).latchDivisor (divisorOf msb lsb)).own
    .st0 0).enter .xfS

theorem exec_st0 (hn : s.initDone = true) : exec (.st0 lsb msb) s = .next (s.acceptSt0 lsb msb) :=
  whenInitialised_done s _ hn

/-- The divisor is `msb*256 + lsb` (20_memory.md R54). -/
theorem divisorOf_eq_ofNat (msb lsb : Byte) : divisorOf msb lsb = BitVec.ofNat 16 (msb.toNat * 256 + lsb.toNat) := by
  apply BitVec.eq_of_toNat_eq
  have hor : msb.toNat <<< 8 ||| lsb.toNat = msb.toNat * 256 + lsb.toNat := by
    rw [← Nat.shiftLeft_add_eq_or_of_lt lsb.isLt, Nat.shiftLeft_eq]
  rw [divisorOf, BitVec.toNat_append, hor, BitVec.toNat_ofNat]
  omega

/-- Settles O9: the writes of R151, one after the other, are one update of the state, with the divisor as a number. -/
theorem st0PlacesTheControlWord : Obligations.St0PlacesTheControlWord := by
  intro s lsb msb hn
  rw [exec_st0 hn, ← divisorOf_eq_ofNat]
  rfl

/-- The cycle that accepts ST0's word is ST0's acceptance step with the clock edge around it (R77, R151). -/
theorem clocksTo_of_acceptsWord_st0 (hn : s.initDone = true) (ha : s.acceptsWord (encode (.st0 lsb msb)))
    (hu : s.unreachable = false) : clocksTo s (s.acceptSt0 lsb msb) := by
  have hstep := stepRunsTheDecodedCommand s _ (.st0 lsb msb) ha hu (decodeOfEncode _)
  rwa [exec_st0 hn] at hstep

/-! ### The byte on the bus -/

/-- The write of byte `i` of an ST0 (R152): the control word to the control register, then the divisor to Timer 0. -/
def st0Write (lsb msb : Byte) (i : Nat) : BusWrite := ⟨if i = 0 then 0b11 else 0b00, st0Data lsb msb i⟩

/-- The writes of an ST0 up to one of its bytes are those before it and that byte's. -/
theorem take_st0Writes_succ (lsb msb : Byte) (hi : i < 3) :
    (st0Writes lsb msb).take (i + 1) = (st0Writes lsb msb).take i ++ [st0Write lsb msb i] := by
  interval_cases i <;> rfl

theorem addressOf_eq_zero_iff : ∀ {a1 a0 : Bool}, addressOf a1 a0 = 0 ↔ a1 = false ∧ a0 = false := by
  decide

theorem State.Inv.byteIdx_ne_three (hi : s.Inv) : s.byteIdx ≠ 3 := by
  obtain ⟨-, -, hbyte⟩ := (unreachable_eq_false s).1 hi.reachable
  exact hbyte

theorem State.Inv.byteIdx_lt_three (hi : s.Inv) : s.byteIdx.toNat < 3 := by
  have hbyte := hi.byteIdx_ne_three
  bv_omega

theorem byteIdx_cases : ∀ {i : BitVec 2}, i ≠ 3 → i = 0 ∨ i = 1 ∨ i = 2 := by
  decide

theorem byteIdx_of_lt_two : ∀ {i : BitVec 2}, i < 2 → i = 0 ∨ i = 1 := by
  decide

/-- While an ST0 owns the bus the write on the latches is its byte's, whichever byte it is. -/
theorem State.st0Bus.busWrite_eq (h : s.st0Bus) (hq : s.seq = .st0) (hp : s.phase = .xfS ∨ s.phase.inBusCycle = true)
    (hb : s.byteIdx ≠ 3) : s.busWrite = st0Write (divisorLsb s.div) (divisorMsb s.div) s.byteIdx.toNat := by
  obtain ⟨hcontrol, hlsb, hmsb⟩ := h hq hp
  obtain hb | hb | hb := byteIdx_cases hb
  · obtain ⟨ha1, ha0, hd⟩ := hcontrol hb
    simp [State.busWrite, hb, ha1, ha0, hd, addressOf, st0Write, st0Data]
  · obtain ⟨ha1, ha0, hd⟩ := hlsb hb
    simp [State.busWrite, hb, ha1, ha0, hd, addressOf, st0Write, st0Data, divisorLsb]
  · obtain ⟨ha1, ha0, hd⟩ := hmsb hb
    simp [State.busWrite, hb, ha1, ha0, hd, addressOf, st0Write, st0Data, divisorMsb]

theorem st0Bus_of_idle (hp : s.phase = .idle) : s.st0Bus := fun _ h => by simp [hp] at h

theorem st0Bus_of_not_st0 (hq : s.seq ≠ .st0) : s.st0Bus := fun h => absurd h hq

/-- The acceptance places the control word (R151). -/
theorem st0Bus_acceptSt0 (s : State) (lsb msb : Byte) : (s.acceptSt0 lsb msb).st0Bus := fun _ _ =>
  ⟨fun _ => ⟨rfl, rfl, rfl⟩, nofun, nofun⟩

/-- The byte advance places the next byte of the divisor (42_transfer.md R135). -/
theorem st0Bus_advanceByte (hb : s.byteIdx < 2) : s.advanceByte.st0Bus := by
  obtain hb | hb := byteIdx_of_lt_two hb
  · rw [advanceByte_of_controlWord hb]
    exact fun _ _ => ⟨nofun, fun _ => ⟨rfl, rfl, rfl⟩, nofun⟩
  · rw [advanceByte_of_lsb hb]
    exact fun _ _ => ⟨nofun, nofun, fun _ => ⟨rfl, rfl, rfl⟩⟩

/-- Every move keeps an ST0's byte on the bus: only the acceptance of a command and the byte advance touch the lines. -/
theorem Move.keeps_st0Bus (h : Move inp s t) (hi : s.Inv) (hbus : s.st0Bus) : t.st0Bus := by
  cases h with
  | reset | finish | exitDl => exact st0Bus_of_idle rfl
  | wait _ hp | illegal _ hp | notInit _ hp | init _ hp | seta _ hp | setd _ hp => exact st0Bus_of_idle hp
  | xfer => exact st0Bus_of_not_st0 Seq.noConfusion
  | st0 _ _ _ _ lsb msb => exact st0Bus_acceptSt0 s lsb msb
  | delay _ hp => exact st0Bus_of_not_st0 (by simp [(hi.idle hp).2.1])
  | count => exact hbus
  | exitS _ hp => exact fun hq _ => hbus hq (.inl hp)
  | exitA _ hp | exitB _ hp | exitC _ hp => exact fun hq _ => hbus hq (.inr (by rw [hp]; rfl))
  | nextByte _ _ _ _ hb => exact st0Bus_advanceByte hb

/-- Settles O34: nothing owns the bus at reset, and a step is a move and the clock edge. -/
theorem everyStepKeepsSt0ByteOnTheBus : Obligations.EveryStepKeepsSt0ByteOnTheBus := by
  refine ⟨st0Bus_of_idle rfl, fun s t hi hbus hstep => ?_⟩
  obtain ⟨u, hmove, rfl⟩ := move_of_step hstep
  exact hmove.keeps_st0Bus hi hbus

/-! ### What a run of busy cycles keeps -/

/-- Every busy cycle with no reset keeps the property. -/
def KeptWhileBusy (P : State → Prop) : Prop :=
  ∀ t u : State, t.Inv → P t → t.currentInput.rst = false → t.phase ≠ .idle → step t = .next u → P u

/-- A run of no more cycles than remain, with no reset, takes them away one by one and keeps the property. -/
theorem KeptWhileBusy.exists_reaches {P : State → Prop} (hk : KeptWhileBusy P) (hi : t.Inv) (hP : P t)
    (hr : t.noReset n) (hn : n ≤ t.remaining) : ∃ u, reaches n t u ∧ u.Inv ∧ P u ∧ u.remaining + n = t.remaining := by
  induction n generalizing t with
  | zero => exact ⟨t, reaches_zero.2 rfl, hi, hP, rfl⟩
  | succ n ih =>
    obtain ⟨v, hmove, hstep, hiv⟩ := hi.exists_step
    have hbusy : t.phase ≠ .idle := by rw [Ne, ← remaining_eq_zero_iff]; omega
    have hrst := currentInput_rst_of_noReset hr
    have hone := hmove.remaining_succ hi hrst hbusy
    rw [← remaining_nextCycle v (t.nextPit v)] at hone
    obtain ⟨u, hreach, hiu, hPu, hrest⟩ :=
      ih hiv (hk _ _ hi hP hrst hbusy hstep) (noReset_of_step hstep hr) (by omega)
    exact ⟨u, (reaches_of_step hstep).2 hreach, hiu, hPu, by omega⟩

/-! ### An ST0 in progress -/

/-- How many of its three writes an ST0 has emitted: those of the bytes before the current one, and that one's from XF_C
on (42_transfer.md R133). -/
def State.st0Done (s : State) : Nat :=
  if s.phase = .idle then 3 else s.byteIdx.toNat + s.phase.written.toNat

theorem st0Done_of_idle (hp : s.phase = .idle) : s.st0Done = 3 := if_pos hp

theorem st0Done_of_busy (hp : s.phase ≠ .idle) : s.st0Done = s.byteIdx.toNat + s.phase.written.toNat := if_neg hp

/-- The next byte begins with the writes of the bytes before it. -/
theorem st0Done_advanceByte (hb : s.byteIdx < 2) : s.advanceByte.st0Done = s.byteIdx.toNat + 1 := by
  have hsucc : (s.byteIdx + 1).toNat = s.byteIdx.toNat + 1 := by bv_omega
  have hdone : s.advanceByte.st0Done = (s.byteIdx + 1).toNat := rfl
  rw [hdone, hsucc]

/-- `t` is a cycle of the ST0 accepted in `s`, or the first one after it: the ST0 owns the bus, with its byte of the
latched divisor on the lines and the writes of the bytes before it in the event log; at the end the last byte stays on
the lines (R155). -/
structure LoadingTimer0 (s : State) (lsb msb : Byte) (t : State) : Prop where
  cfg : t.cfg = s.cfg
  place : ((t.phase = .xfS ∨ t.phase.inBusCycle = true) ∧ t.seq = .st0) ∨ t.phase = .idle
  div : t.div = divisorOf msb lsb
  bus : t.st0Bus
  last : t.phase = .idle → t.busWrite = st0Write lsb msb 2
  events : t.events = s.events ++ (st0Writes lsb msb).take t.st0Done
  errors : t.errIll = s.errIll ∧ t.errNoInit = s.errNoInit

theorem LoadingTimer0.busy (h : LoadingTimer0 s lsb msb t) (hb : t.phase ≠ .idle) :
    (t.phase = .xfS ∨ t.phase.inBusCycle = true) ∧ t.seq = .st0 := h.place.resolve_right hb

theorem LoadingTimer0.busWrite_eq (h : LoadingTimer0 s lsb msb t) (hi : t.Inv) (hb : t.phase ≠ .idle) :
    t.busWrite = st0Write lsb msb t.byteIdx.toNat := by
  obtain ⟨hp, hq⟩ := h.busy hb
  have hlsb : divisorLsb t.div = lsb := h.div ▸ BitVec.extractLsb'_append_eq_right
  have hmsb : divisorMsb t.div = msb := h.div ▸ BitVec.extractLsb'_append_eq_left
  rw [h.bus.busWrite_eq hq hp hi.byteIdx_ne_three, hlsb, hmsb]

/-- Every busy cycle of an ST0 with no reset leads to another, or to its end. -/
theorem Move.keeps_loadingTimer0 (hm : Move inp t u) (hi : t.Inv) (h : LoadingTimer0 s lsb msb t) (hr : inp.rst = false)
    (hb : t.phase ≠ .idle) : LoadingTimer0 s lsb msb u := by
  obtain ⟨hp, hq⟩ := h.busy hb
  have hbus := hm.keeps_st0Bus hi h.bus
  have hline := h.busWrite_eq hi hb
  have hbyte := hi.byteIdx_lt_three
  have hevents := h.events
  rw [st0Done_of_busy hb] at hevents
  cases hm with
  | reset hrst => exact nomatch hrst.symm.trans hr
  | wait _ hp | illegal _ hp | notInit _ hp | init _ hp | seta _ hp | setd _ hp | xfer _ hp | st0 _ hp
  | delay _ hp => exact absurd hp hb
  | exitDl _ hdl => simp [hdl] at hp
  | count => exact ⟨h.cfg, h.place, h.div, hbus, h.last, h.events, h.errors⟩
  | exitS _ hp | exitA _ hp | exitC _ hp =>
    rw [hp] at hevents
    exact ⟨h.cfg, .inl ⟨.inr rfl, hq⟩, h.div, hbus, nofun, hevents, h.errors⟩
  | exitB _ hp =>
    rw [hp] at hevents
    refine ⟨h.cfg, .inl ⟨.inr rfl, hq⟩, h.div, hbus, nofun, ?_, h.errors⟩
    rw [enter_events, emitWrite_events, setWr_events, hevents, hline, List.append_assoc]
    exact congrArg (s.events ++ ·) (take_st0Writes_succ lsb msb hbyte).symm
  | nextByte _ hp _ _ hnext =>
    rw [hp] at hevents
    refine ⟨h.cfg, .inl ⟨.inl rfl, hq⟩, h.div, hbus, nofun, ?_, h.errors⟩
    rw [st0Done_advanceByte hnext]
    exact hevents
  | finish _ hp _ hlast =>
    have htwo : t.byteIdx.toNat = 2 := by
      have : ¬ t.byteIdx < 2 := fun hlt => hlast ⟨hq, hlt⟩
      bv_omega
    rw [hp, htwo] at hevents
    rw [htwo] at hline
    exact ⟨h.cfg, .inr rfl, h.div, hbus, fun _ => hline, hevents, h.errors⟩

theorem LoadingTimer0.nextCycle (h : LoadingTimer0 s lsb msb t) (pit : Pit) :
    LoadingTimer0 s lsb msb (t.nextCycle pit) :=
  ⟨h.cfg, h.place, h.div, h.bus, h.last, h.events, h.errors⟩

theorem loadingTimer0_keptWhileBusy (s : State) (lsb msb : Byte) : KeptWhileBusy (LoadingTimer0 s lsb msb) := by
  intro t u hi h hr hb hstep
  obtain ⟨v, hmove, rfl⟩ := move_of_step hstep
  exact (hmove.keeps_loadingTimer0 hi h hr hb).nextCycle _

theorem loadingTimer0_acceptSt0 (s : State) (lsb msb : Byte) : LoadingTimer0 s lsb msb (s.acceptSt0 lsb msb) :=
  ⟨rfl, .inl ⟨.inl rfl, rfl⟩, rfl, st0Bus_acceptSt0 s lsb msb, nofun, (List.append_nil _).symm, rfl, rfl⟩

/-- Behind its acceptance an ST0 has three bus cycles before it, each with its set-up (R152). -/
theorem remaining_acceptSt0 (s : State) (lsb msb : Byte) : (s.acceptSt0 lsb msb).remaining = 15 * s.cfg.nDly + 3 := by
  rw [State.acceptSt0, remaining_enter _ (by decide), comingBytes_own_st0]
  simp only [own_cfg, latchDivisor_cfg, setData_cfg, setAddr_cfg, setWr_cfg, setCs_cfg, phaseLength, cyclesAfter]
  omega

/-- A run of `j` cycles from an ST0's acceptance, with no reset, is in that ST0 or at its end. -/
theorem exists_reaches_of_st0 (hi : s.Inv) (hn : s.initDone = true) (ha : s.acceptsWord (encode (.st0 lsb msb)))
    (hone : 1 ≤ j) (hj : j ≤ 15 * s.cfg.nDly + 4) (hr : s.noReset j) :
    ∃ t, reaches j s t ∧ t.Inv ∧ LoadingTimer0 s lsb msb t ∧ t.remaining + j = 15 * s.cfg.nDly + 4 := by
  have hstep := clocksTo_of_acceptsWord_st0 hn ha hi.reachable
  have hfirst := remaining_acceptSt0 s lsb msb
  have hstart := (loadingTimer0_acceptSt0 s lsb msb).nextCycle (s.nextPit (s.acceptSt0 lsb msb))
  have hinv : ((s.acceptSt0 lsb msb).nextCycle (s.nextPit (s.acceptSt0 lsb msb))).Inv :=
    everyStepKeepsTheInvariant _ _ hi hstep
  obtain ⟨k, rfl⟩ := Nat.exists_eq_add_of_le' hone
  obtain ⟨t, hreach, hit, ht, hrest⟩ := (loadingTimer0_keptWhileBusy s lsb msb).exists_reaches hinv hstart
    (noReset_of_step hstep hr) (by rw [remaining_nextCycle]; omega)
  rw [remaining_nextCycle] at hrest
  exact ⟨t, (reaches_of_step hstep).2 hreach, hit, ht, by omega⟩

/-! ### The schedule (R152) -/

/-- Byte `i` begins at `b_i`, and lasts for a set-up and a bus cycle. -/
theorem st0Byte_of_offset (hi : i < 3) (ho : o < 5 * n + 1) : st0Byte n (1 + i * (5 * n + 1) + o) = i := by
  unfold st0Byte
  interval_cases i <;> split_ifs <;> omega

theorem st0Offset_of_offset (hi : i < 3) (ho : o < 5 * n + 1) : st0Offset n (1 + i * (5 * n + 1) + o) = o := by
  unfold st0Offset
  interval_cases i <;> split_ifs <;> omega

theorem st0Phase_of_offset (hi : i < 3) (ho : o < 5 * n + 1) :
    st0Phase n (1 + i * (5 * n + 1) + o) = if o = 0 then .xfS else busCyclePhase n o := by
  rw [st0Phase, st0Byte_of_offset hi ho, st0Offset_of_offset hi ho, if_pos hi]

/-- How many writes of an ST0 are in the event log `j` cycles after its acceptance: byte `i`'s write is emitted out of
the cycle `b_i + 3*N_DLY`. -/
def st0WritesAt (n j : Nat) : Nat :=
  (if 3 * n + 1 < j then 1 else 0) + (if 8 * n + 2 < j then 1 else 0) + (if 13 * n + 3 < j then 1 else 0)

theorem st0WritesAt_of_offset (hi : i < 3) (ho : o < 5 * n + 1) :
    st0WritesAt n (1 + i * (5 * n + 1) + o) = i + (decide (3 * n < o)).toNat := by
  rw [Bool.toNat, Bool.cond_decide]
  unfold st0WritesAt
  interval_cases i <;> split_ifs <;> omega

theorem st0Byte_end (n : Nat) : st0Byte n (15 * n + 4) = 3 := by
  unfold st0Byte
  split_ifs <;> omega

theorem st0Phase_end (n : Nat) : st0Phase n (15 * n + 4) = .idle := by
  rw [st0Phase, st0Byte_end, if_neg (by decide)]

theorem st0WritesAt_end (n : Nat) : st0WritesAt n (15 * n + 4) = 3 := by
  unfold st0WritesAt
  split_ifs <;> omega

/-- A phase of a bus cycle ends, with the later ones, before the bus cycle's five delay units do (40_delay.md R92). -/
theorem cyclesAfter_lt_busCycle {c : Config} {p : Phase} {k : Nat} (hp : p.inBusCycle = true)
    (hk : k ≤ phaseLength c p - 1) : k + cyclesAfter c.nDly p < 5 * c.nDly := by
  have hn : 1 ≤ c.nDly := c.one_le_nDly
  cases p with
  | idle | xfS | dl | unused7 => exact nomatch hp
  | xfA | xfB | xfC | xfD =>
    simp only [phaseLength, cyclesAfter] at hk ⊢
    omega

/-- The phase of a byte's set-up or bus cycle is the one the schedule has at its offset, which the cycles that remain of
the byte tell. -/
theorem phase_exists_offset {c : Config} {p : Phase} {k : Nat} (hp : p = .xfS ∨ p.inBusCycle = true)
    (hk : k ≤ phaseLength c p - 1) :
    ∃ o, k + 1 + cyclesAfter c.nDly p + o = 5 * c.nDly + 1 ∧ p = if o = 0 then .xfS else busCyclePhase c.nDly o := by
  obtain rfl | hcycle := hp
  · refine ⟨0, ?_, rfl⟩
    simp only [phaseLength, cyclesAfter] at hk ⊢
    omega
  · obtain ⟨o, ho⟩ := Nat.exists_eq_add_of_lt (cyclesAfter_lt_busCycle hcycle hk)
    refine ⟨o + 1, by omega, ?_⟩
    rw [if_neg o.succ_ne_zero, busCyclePhase_of_remaining hcycle hk (by omega)]

theorem written_of_offset (n o : Nat) :
    (if o = 0 then Phase.xfS else busCyclePhase n o).written = decide (3 * n < o) := by
  split_ifs with h
  · simp [h, Phase.written]
  · exact busCyclePhase_written

/-- The cycles that remain of a busy ST0 say which cycle of which byte it is in. -/
theorem LoadingTimer0.exists_offset (h : LoadingTimer0 s lsb msb t) (hi : t.Inv) (hb : t.phase ≠ .idle)
    (hj : t.remaining + j = 15 * s.cfg.nDly + 4) :
    ∃ o, o < 5 * s.cfg.nDly + 1 ∧ j = 1 + t.byteIdx.toNat * (5 * s.cfg.nDly + 1) + o ∧
      t.phase = if o = 0 then .xfS else busCyclePhase s.cfg.nDly o := by
  obtain ⟨hp, hq⟩ := h.busy hb
  obtain ⟨o, ho, hphase⟩ := phase_exists_offset hp hi.counter
  have hbyte := hi.byteIdx_lt_three
  rw [remaining_of_busy hb, comingBytes_of_st0 hq] at hj
  rw [h.cfg] at hj ho hphase
  refine ⟨o, by omega, ?_, hphase⟩
  generalize t.byteIdx.toNat = i at hbyte hj ⊢
  interval_cases i <;> omega

/-- The cycles that remain of an ST0 say where in the schedule it is: its phase, the write on the lines and the writes
emitted. -/
theorem LoadingTimer0.schedule (h : LoadingTimer0 s lsb msb t) (hi : t.Inv)
    (hj : t.remaining + j = 15 * s.cfg.nDly + 4) :
    t.phase = st0Phase s.cfg.nDly j ∧ t.busWrite = st0Write lsb msb (st0Byte s.cfg.nDly j) ∧
      t.st0Done = st0WritesAt s.cfg.nDly j := by
  by_cases hb : t.phase = .idle
  · obtain rfl : j = 15 * s.cfg.nDly + 4 := by rwa [remaining_of_idle hb, Nat.zero_add] at hj
    rw [st0Phase_end, st0Byte_end, st0WritesAt_end]
    exact ⟨hb, h.last hb, st0Done_of_idle hb⟩
  · obtain ⟨o, ho, rfl, hphase⟩ := h.exists_offset hi hb hj
    have hbyte := hi.byteIdx_lt_three
    rw [st0Phase_of_offset hbyte ho, st0Byte_of_offset hbyte ho, st0WritesAt_of_offset hbyte ho]
    refine ⟨hphase, h.busWrite_eq hi hb, ?_⟩
    rw [st0Done_of_busy hb, hphase, written_of_offset]

/-- Settles O25: the run is in the ST0, the schedule gives its phase, lines and events, and CS# and WR# follow the phase
by the invariant. -/
theorem st0RunsItsSchedule : Obligations.St0RunsItsSchedule := by
  intro s lsb msb j hi hn ha hone hj hr
  obtain ⟨t, hreach, hit, ht, hrest⟩ := exists_reaches_of_st0 hi hn ha hone hj hr
  obtain ⟨hphase, hline, hdone⟩ := ht.schedule hit hrest
  obtain ⟨haddr, hdata⟩ := BusWrite.mk.inj hline
  exact ⟨t, hreach, hphase, hit.chipSelect, hit.writeStrobe, haddr, hdata, ht.events.trans (by rw [hdone]; rfl)⟩

/-- Settles O26: after the last cycle of the ST0 the block is in IDLE with all three writes in the event log and the
last one on the lines. -/
theorem st0EmitsExactlyThreeWrites : Obligations.St0EmitsExactlyThreeWrites := by
  intro s lsb msb hi hn ha hr
  obtain ⟨t, hreach, hit, ht, hrest⟩ := exists_reaches_of_st0 hi hn ha (by omega) le_rfl hr
  have hidle : t.phase = .idle := remaining_eq_zero_iff.1 (by omega)
  obtain ⟨haddr, hdata⟩ := BusWrite.mk.inj (ht.last hidle)
  obtain ⟨ha1, ha0⟩ := addressOf_eq_zero_iff.1 haddr
  obtain ⟨-, hq, hb⟩ := hit.idle hidle
  obtain ⟨hill, hno⟩ := ht.errors
  have hready : t.cmdReady false = true := by simp [State.cmdReady, hidle]
  have hevents := ht.events
  rw [st0Done_of_idle hidle] at hevents
  exact ⟨t, hreach, hready, hevents, hit.csN_high (.inl hidle), hit.wrN_high (by simp [hidle]), ha1, ha0, hdata, hq, hb,
    ht.div, hill, hno⟩

end Sys2Proof.Machine
end

section
/-! Progress and the external 8254 (60_exceptions.md R174, R185 to R187): the block never stops and never hangs, and
what a step makes of the chip. O28, O31, O51 to O54. -/

namespace Sys2Proof.Machine

variable {inp : Input} {s t : State}

/-! ### Progress (R174) -/

/-- No more bus cycles are to come than the two of a divisor. -/
theorem comingBytes_le (s : State) : s.comingBytes ≤ 2 * (5 * s.cfg.nDly + 1) := by
  by_cases hq : s.seq = .st0
  · rw [comingBytes_of_st0 hq]
    exact Nat.mul_le_mul_right _ (Nat.sub_le _ _)
  · rw [comingBytes_of_not_st0 hq]
    exact Nat.zero_le _

/-- The longest way to IDLE is that of an ST0 just accepted (40_delay.md R93). -/
theorem State.Inv.remaining_le (hi : s.Inv) : s.remaining ≤ 15 * s.cfg.nDly + 3 := by
  have hbytes := comingBytes_le s
  by_cases hidle : s.phase = .idle
  · rw [remaining_of_idle hidle]
    exact Nat.zero_le _
  rw [remaining_of_busy hidle]
  by_cases hp : s.phase = .xfS ∨ s.phase.inBusCycle = true
  · obtain ⟨o, ho, -⟩ := phase_exists_offset hp hi.counter
    omega
  · have hdl : cyclesAfter s.cfg.nDly s.phase = 0 := by
      cases hphase : s.phase with
      | idle | dl | unused7 => rfl
      | xfS | xfA | xfB | xfC | xfD => simp [hphase] at hp
    have hcounter := hi.counter
    have hlength : phaseLength s.cfg s.phase ≤ 2 * s.cfg.nDly := (phaseLength_bounds s.cfg s.phase).2
    omega

/-- Settles O28: the cycles that remain run out, and they are no more than the bound. -/
theorem blockReturnsToIdle : Obligations.BlockReturnsToIdle := by
  intro s hi hr
  have hle := hi.remaining_le
  obtain ⟨t, hreach, -, hrest⟩ := exists_reaches_of_le_remaining hi (noReset_of_le hr hle) le_rfl
  exact ⟨s.remaining, t, hle, hreach, remaining_eq_zero_iff.1 (by omega)⟩

/-- Settles O31: a cycle from a state of the invariant leads to another, so any number of them does. -/
theorem noStepStopsUnderTheInvariant : Obligations.NoStepStopsUnderTheInvariant := by
  intro s n hi
  induction n generalizing s with
  | zero => exact ⟨s, reaches_zero.2 rfl, hi⟩
  | succ n ih =>
    obtain ⟨u, -, hstep, hiu⟩ := hi.exists_step
    obtain ⟨t, hreach, hit⟩ := ih _ hiu
    exact ⟨t, (reaches_of_step hstep).2 hreach, hit⟩

/-! ### The frequency of Timer 0 (R186) -/

/-- From its onset on, the output of a programmed Timer 0 is the divisor's. -/
theorem timer0Frequency_of_onset {v : Half} {since : Nat} (ht : s.pit.timer0 = .squareWave v since)
    (hon : since + Config.onsetDelay since < s.cycle) : s.timer0Frequency = divisorFrequency s.cfg s.cycle v := by
  simp only [State.timer0Frequency, ht, if_pos hon]

theorem divisorFrequency_of_large (c : Config) (k : Nat) {v : Half} (hv : v ≠ 0)
    (hs : c.params.smallDivisor ≤ v.toNat) :
    divisorFrequency c k v = c.params.fPitClk / (v.toNat : ℚ) := by
  rw [divisorFrequency, if_neg fun h => absurd h.2 hs.not_gt, divisorCount, if_neg hv]

theorem divisorFrequency_zero (c : Config) (k : Nat) : divisorFrequency c k 0 = c.params.fPitClk / 65536 := by
  rw [divisorFrequency, if_neg fun h => h.1 rfl, divisorCount, if_pos rfl]
  norm_num

/-- Settles O54: the output is the divisor's, and the divisor is large or 0. -/
theorem timer0FrequencyIsClockOverDivisor : Obligations.Timer0FrequencyIsClockOverDivisor := by
  intro s v since ht hon
  rw [timer0Frequency_of_onset ht hon]
  refine ⟨divisorFrequency_of_large _ _, ?_⟩
  rintro rfl
  exact divisorFrequency_zero _ _

/-! ### What a step makes of the chip (R185 to R187) -/

/-- The event log after a move is the one before it and the step's event, if it emits one (20_memory.md R52). -/
theorem Move.events_eq (h : Move inp s t) : t.events = s.events ++ (s.emitted inp).toList := by
  obtain ⟨⟨hr, hp, hc⟩, rfl⟩ | ⟨hother, hevents⟩ := h.strobeExit_or_silent
  · rw [(emitted_eq_some_iff s inp s.busWrite).2 ⟨hr, hp, hc, rfl⟩]
    rfl
  · rw [(emitted_eq_none_iff s inp).2 hother, hevents, Option.toList_none, List.append_nil]

theorem busDisturbed_iff :
    busDisturbed s t = true ↔ s.oe = false ∨ t.oe = false ∨ s.currentInput.foreignDrive = true := by
  simp [busDisturbed, or_assoc]

theorem busDisturbed_eq_false (hs : s.oe = true) (ht : t.oe = true) (hf : s.currentInput.foreignDrive = false) :
    busDisturbed s t = false := by
  simp [busDisturbed, hs, ht, hf]

/-- A disturbed step, or a write of an uncalibrated block, leaves the whole chip unknown (R187). -/
theorem chipAfter_eq_unknown
    (h : busDisturbed s t = true ∨ (s.emitted s.currentInput ≠ none ∧ s.cfg.calibrated = false)) :
    s.chipAfter t = Pit.unknown (s.cycle + 1) := by
  obtain ⟨-, hchip⟩ | ⟨hquiet, hnone, -⟩ | ⟨w, hquiet, -, hchip⟩ := chipAfter_cases s t
  · exact hchip
  · simp [hquiet, hnone] at h
  · obtain ⟨-, hcal⟩ := h.resolve_left (by simp [hquiet])
    rw [hchip, hcal, Bool.and_false, receive_unsound]

/-- Settles O51: each of the disturbances leaves the chip unknown, and an event is what makes the log longer. -/
theorem disturbedBusLeavesTimer0Free : Obligations.DisturbedBusLeavesTimer0Free := by
  intro s t hstep hd
  obtain ⟨u, hmove, rfl⟩ := move_of_step hstep
  have hevents := hmove.events_eq
  have hunknown : s.chipAfter u = Pit.unknown (s.cycle + 1) := by
    apply chipAfter_eq_unknown
    obtain hoe | hoe | hforeign | ⟨hnew, hcal⟩ := hd
    · exact .inl (busDisturbed_iff.2 (.inl hoe))
    · exact .inl (busDisturbed_iff.2 (.inr (.inl hoe)))
    · exact .inl (busDisturbed_iff.2 (.inr (.inr hforeign)))
    · refine .inr ⟨fun hnone => hnew ?_, hcal⟩
      rw [nextCycle_events, hevents, hnone, Option.toList_none, List.append_nil]
  rw [nextCycle_pit, nextPit_timer0, nextPit_other, nextPit_progress, hunknown]
  exact ⟨rfl, rfl, rfl⟩

/-! ### The recorded part of a triple (R186) -/

/-- Everything the chip can make of a write: unknown, or one more write of a triple in progress. -/
inductive Receipt (k : Nat) (p : Pit) : BusWrite → Pit → Prop where
  | unknown (w : BusWrite) : Receipt k p w (Pit.unknown (k + 1))
  | control : Receipt k p ⟨controlAddr, controlWord⟩ { Pit.unknown (k + 1) with progress := .control }
  | lsb (b : Byte) (h : p.progress = .control) :
      Receipt k p ⟨timer0Addr, b⟩ { Pit.unknown (k + 1) with progress := .lsb b }
  | msb (l m : Byte) (h : p.progress = .lsb l) :
      Receipt k p ⟨timer0Addr, m⟩ { p with timer0 := .squareWave (divisorOf m l) k, progress := .start }

theorem receipt_of_receive (sound : Bool) (k : Nat) (p : Pit) (w : BusWrite) :
    Receipt k p w (p.receive sound k w) := by
  obtain ⟨addr, data⟩ := w
  unfold Pit.receive
  split_ifs with hsound hcontrol htimer0
  · exact .unknown _
  · obtain ⟨rfl, rfl⟩ := hcontrol
    exact .control
  · obtain rfl : addr = timer0Addr := htimer0
    cases hp : p.progress with
    | start => exact .unknown _
    | control => exact .lsb data hp
    | lsb b => exact .msb b data hp
  · exact .unknown _

theorem tripleRecorded_of_start (h : s.pit.progress = .start) : s.tripleRecorded := by
  unfold State.tripleRecorded
  rw [h]
  trivial

theorem tripleRecorded_of_control (h : s.pit.progress = .control) :
    s.tripleRecorded ↔ ∃ l, s.events = l ++ [⟨0b11, 0x36⟩] := by
  unfold State.tripleRecorded
  rw [h]

theorem tripleRecorded_of_lsb {b : Byte} (h : s.pit.progress = .lsb b) :
    s.tripleRecorded ↔ ∃ l, s.events = l ++ [⟨0b11, 0x36⟩, ⟨0b00, b⟩] := by
  unfold State.tripleRecorded
  rw [h]

/-- The record speaks of the recorded part and of the event log only. -/
theorem State.tripleRecorded.of_eq (h : s.tripleRecorded) (hp : t.pit.progress = s.pit.progress)
    (he : t.events = s.events) : t.tripleRecorded := by
  unfold State.tripleRecorded
  rw [hp, he]
  exact h

/-- Every step leaves the chip unknown, emits nothing and leaves it as it is, or has it receive the write emitted. -/
theorem Move.chip_cases (h : Move s.currentInput s t) :
    s.chipAfter t = Pit.unknown (s.cycle + 1) ∨ (t.events = s.events ∧ s.chipAfter t = s.pit) ∨
      ∃ w, t.events = s.events ++ [w] ∧ Receipt s.cycle s.pit w (s.chipAfter t) := by
  have hevents := h.events_eq
  obtain ⟨-, hchip⟩ | ⟨-, hnone, hchip⟩ | ⟨w, -, hsome, hchip⟩ := chipAfter_cases s t
  · exact .inl hchip
  · exact .inr (.inl ⟨by simpa [hnone] using hevents, hchip⟩)
  · exact .inr (.inr ⟨w, by simpa [hsome] using hevents, hchip ▸ receipt_of_receive _ _ _ _⟩)

/-- Settles O53: the record starts empty; a step that does not forget it adds to it the write it adds to the log. -/
theorem everyStepKeepsTheTripleRecord : Obligations.EveryStepKeepsTheTripleRecord := by
  refine ⟨tripleRecorded_of_start rfl, fun s t hrec hstep => ?_⟩
  obtain ⟨u, hmove, rfl⟩ := move_of_step hstep
  have hprogress : (u.nextCycle (s.nextPit u)).pit.progress = (s.chipAfter u).progress := rfl
  obtain hchip | ⟨hevents, hchip⟩ | ⟨w, hevents, hreceipt⟩ := hmove.chip_cases
  · exact tripleRecorded_of_start (hprogress.trans (by rw [hchip]; rfl))
  · exact hrec.of_eq (hprogress.trans (by rw [hchip])) hevents
  · generalize s.chipAfter u = p at hreceipt hprogress
    cases hreceipt with
    | unknown | msb => exact tripleRecorded_of_start hprogress
    | control => exact (tripleRecorded_of_control hprogress).2 ⟨_, hevents⟩
    | lsb b hcontrol =>
      obtain ⟨l, hl⟩ := (tripleRecorded_of_control hcontrol).1 hrec
      refine (tripleRecorded_of_lsb hprogress).2 ⟨l, ?_⟩
      rw [nextCycle_events, hevents, hl, List.append_assoc]
      rfl

/-- Settles O52: the one receipt that programs Timer 0 is that of the write after a recorded LSB. -/
theorem onlyACompleteTripleProgramsTimer0 : Obligations.OnlyACompleteTripleProgramsTimer0 := by
  intro s t hrec hstep hnew
  obtain ⟨u, hmove, rfl⟩ := move_of_step hstep
  rw [nextCycle_events, nextCycle_pit, nextPit_timer0]
  obtain hchip | ⟨hevents, -⟩ | ⟨w, hevents, hreceipt⟩ := hmove.chip_cases
  · exact .inl (congrArg Pit.timer0 hchip)
  · exact absurd hevents hnew
  · generalize s.chipAfter u = p at hreceipt
    cases hreceipt with
    | unknown | control | lsb => exact .inl rfl
    | msb l m hlsb =>
      obtain ⟨before, hbefore⟩ := (tripleRecorded_of_lsb hlsb).1 hrec
      refine .inr ⟨before, l, m, ?_, rfl⟩
      rw [hevents, hbefore, List.append_assoc]
      rfl

end Sys2Proof.Machine
end

section
/-! What an undisturbed ST0 of a calibrated block leaves in Timer 0 (60_exceptions.md R186): the chip receives the three
writes of the ST0 one after the other, and nothing else touches it. O50. -/

namespace Sys2Proof.Machine

variable {s t u : State} {lsb msb : Byte} {k K i n : Nat}

/-! ### The chip and the writes of an ST0 -/

/-- What the chip is after `i` of the three writes of an ST0, the last of them emitted out of cycle `k` (R186). -/
def Pit.hasReceived (lsb msb : Byte) (k : Nat) (p : Pit) : Nat → Prop
  | 0 => True
  | 1 => p.progress = .control
  | 2 => p.progress = .lsb lsb
  | _ => p.timer0 = .squareWave (divisorOf msb lsb) k

/-- The next sound write of an ST0 is received as such. Whatever the chip was, the control word begins a triple. -/
theorem Pit.hasReceived_receive {p : Pit} (h : p.hasReceived lsb msb K i) (hi : i < 3) (hk : i = 2 → k = K) :
    (p.receive true k (st0Write lsb msb i)).hasReceived lsb msb K (i + 1) := by
  obtain rfl | rfl | rfl : i = 0 ∨ i = 1 ∨ i = 2 := by omega
  · exact congrArg Pit.progress (receive_control_word k p)
  · exact congrArg Pit.progress (receive_lsb k p lsb h)
  · obtain rfl := hk rfl
    exact congrArg Pit.timer0 (receive_msb k p lsb msb h)

/-! ### The pins over a cycle -/

theorem currentInput_foreignDrive_of_ownBus (h : s.ownBus n) (hn : 0 < n) : s.currentInput.foreignDrive = false := by
  rw [currentInput_eq_inputAt]
  exact h 0 hn

theorem ownBus_of_step (h : step s = .next t) (hn : s.ownBus (n + 1)) : t.ownBus n := fun k hk => by
  rw [inputAt_of_step h]
  exact hn (k + 1) (by omega)

/-- A busy cycle with no reset accepts nothing, so `OE` stays (10_state.md R27). -/
theorem oe_of_busy (h : step s = .next t) (hr : s.currentInput.rst = false) (hb : s.phase ≠ .idle) : t.oe = s.oe := by
  rw [outputsEnabledByInitOnly s t h, if_neg (by simp [hr]), if_neg (by simp [accepts_of_busy hb])]

/-- With the pins the block's alone no disturbance comes to be remembered (log 27). -/
theorem disturbanceAfter_eq_false (hclean : s.pit.strobeDisturbed = false) (hquiet : busDisturbed s t = false) :
    s.disturbanceAfter t = false := by
  simp [State.disturbanceAfter, hclean, hquiet]

/-! ### An undisturbed ST0 in progress -/

theorem st0Done_le (hi : t.Inv) : t.st0Done ≤ 3 := by
  by_cases hb : t.phase = .idle
  · exact (st0Done_of_idle hb).le
  · have hbyte := hi.byteIdx_lt_three
    have hwritten := Bool.toNat_le t.phase.written
    rw [st0Done_of_busy hb]
    omega

theorem LoadingTimer0.events_length (h : LoadingTimer0 s lsb msb t) (hi : t.Inv) :
    t.events.length = s.events.length + t.st0Done := by
  have hthree : (st0Writes lsb msb).length = 3 := rfl
  rw [h.events, List.length_append, List.length_take, hthree, Nat.min_eq_left (st0Done_le hi)]

/-- `t` is a cycle of the ST0 accepted in `s`, or the first one after it, with the pins the block's alone so far and to
the end: the chip has received what the ST0 has emitted, the last write out of cycle `c + 3 + 13*N_DLY` (R186). -/
structure ProgrammingTimer0 (s : State) (lsb msb : Byte) (t : State) : Prop where
  load : LoadingTimer0 s lsb msb t
  driven : t.oe = true
  alone : t.ownBus t.remaining
  clock : t.cycle + t.remaining = s.cycle + (15 * s.cfg.nDly + 4)
  clean : t.pit.strobeDisturbed = false
  chip : t.pit.hasReceived lsb msb (s.cycle + 3 + 13 * s.cfg.nDly) t.st0Done

/-- In the cycle in which a write of the ST0 is emitted, its byte's write is on the lines, those before it have been
emitted, and the cycles that remain say when it is. -/
theorem ProgrammingTimer0.of_emitted {w : BusWrite} (h : ProgrammingTimer0 s lsb msb t) (hi : t.Inv)
    (he : t.emitted t.currentInput = some w) :
    t.st0Done < 3 ∧ w = st0Write lsb msb t.st0Done ∧ (t.st0Done = 2 → t.cycle = s.cycle + 3 + 13 * s.cfg.nDly) := by
  obtain ⟨-, hp, hc, rfl⟩ := (emitted_eq_some_iff _ _ _).1 he
  have hb : t.phase ≠ .idle := by simp [hp]
  have hdone : t.st0Done = t.byteIdx.toNat := by
    rw [st0Done_of_busy hb, hp]
    rfl
  refine ⟨hdone ▸ hi.byteIdx_lt_three, hdone ▸ h.load.busWrite_eq hi hb, fun htwo => ?_⟩
  obtain ⟨-, hq⟩ := h.load.busy hb
  have hclock := h.clock
  rw [remaining_of_busy hb, comingBytes_of_st0 hq, hc, hp, cyclesAfter, h.load.cfg, ← hdone, htwo] at hclock
  omega

/-- The chip after a busy cycle of the ST0 with the pins the block's alone. -/
theorem ProgrammingTimer0.chipAfter (h : ProgrammingTimer0 s lsb msb t) (hi : t.Inv) (hcal : s.cfg.calibrated = true)
    (hquiet : busDisturbed t u = false) (hlog : u.events = t.events ++ (t.emitted t.currentInput).toList)
    (hu : LoadingTimer0 s lsb msb u) (hiu : u.Inv) :
    (t.chipAfter u).hasReceived lsb msb (s.cycle + 3 + 13 * s.cfg.nDly) u.st0Done := by
  have hsound : (!t.pit.strobeDisturbed && t.cfg.calibrated) = true := by rw [h.clean, h.load.cfg, hcal]; rfl
  have hlength := congrArg List.length hlog
  rw [List.length_append, h.load.events_length hi, hu.events_length hiu] at hlength
  obtain ⟨hdisturbed, -⟩ | ⟨-, hnone, hchip⟩ | ⟨w, -, hsome, hchip⟩ := chipAfter_cases t u
  · exact nomatch hquiet.symm.trans hdisturbed
  · have hsame : u.st0Done = t.st0Done := by
      rw [hnone, Option.toList_none, List.length_nil] at hlength
      omega
    rw [hchip, hsame]
    exact h.chip
  · have hnext : u.st0Done = t.st0Done + 1 := by
      rw [hsome, Option.toList_some, List.length_singleton] at hlength
      omega
    obtain ⟨hlt, rfl, hlast⟩ := h.of_emitted hi hsome
    rw [hchip, hnext, hsound]
    exact Pit.hasReceived_receive h.chip hlt hlast

theorem programmingTimer0_keptWhileBusy (s : State) (lsb msb : Byte) (hcal : s.cfg.calibrated = true) :
    KeptWhileBusy (ProgrammingTimer0 s lsb msb) := by
  intro t u hi h hr hb hstep
  have hload := loadingTimer0_keptWhileBusy s lsb msb t u hi h.load hr hb hstep
  have hinv := everyStepKeepsTheInvariant t u hi hstep
  have hoe := (oe_of_busy hstep hr hb).trans h.driven
  obtain ⟨-, hcycle, -⟩ := step_surroundings hstep
  obtain ⟨v, hmove, rfl⟩ := move_of_step hstep
  have hone := hmove.remaining_succ hi hr hb
  rw [← remaining_nextCycle v (t.nextPit v)] at hone
  have halone := h.alone
  have hclock := h.clock
  rw [← hone] at halone hclock
  have hquiet : busDisturbed t v = false :=
    busDisturbed_eq_false h.driven hoe (currentInput_foreignDrive_of_ownBus halone (Nat.succ_pos _))
  exact
    { load := hload
      driven := hoe
      alone := ownBus_of_step hstep halone
      clock := by omega
      clean := disturbanceAfter_eq_false h.clean hquiet
      chip := h.chipAfter hi hcal hquiet hmove.events_eq hload hinv }

/-- The acceptance of an ST0 in a cycle with no disturbance starts it with a clean record (log 27). -/
theorem programmingTimer0_acceptSt0 (hi : s.Inv) (hn : s.initDone = true) (ha : s.acceptsWord (encode (.st0 lsb msb)))
    (hown : s.ownBus (15 * s.cfg.nDly + 4)) : ∃ t, step s = .next t ∧ t.Inv ∧ ProgrammingTimer0 s lsb msb t := by
  have hstep := clocksTo_of_acceptsWord_st0 hn ha hi.reachable
  obtain ⟨hacc, -⟩ := ha
  obtain ⟨-, -, hidle⟩ := (accepts_iff _ _).1 hacc
  have hoe : s.oe = true := hi.enabled.trans hn
  have hremaining := remaining_acceptSt0 s lsb msb
  rw [← remaining_nextCycle (s.acceptSt0 lsb msb) (s.nextPit (s.acceptSt0 lsb msb))] at hremaining
  have hquiet : busDisturbed s (s.acceptSt0 lsb msb) = false :=
    busDisturbed_eq_false hoe hoe (currentInput_foreignDrive_of_ownBus hown (Nat.succ_pos _))
  refine ⟨(s.acceptSt0 lsb msb).nextCycle (s.nextPit (s.acceptSt0 lsb msb)), hstep,
    everyStepKeepsTheInvariant _ _ hi hstep, ?_⟩
  exact
    { load := (loadingTimer0_acceptSt0 s lsb msb).nextCycle _
      driven := hoe
      alone := hremaining ▸ ownBus_of_step hstep hown
      clock := by
        have hcycle : (s.acceptSt0 lsb msb).cycle = s.cycle := rfl
        rw [nextCycle_cycle, hremaining, hcycle]
        omega
      clean := (disturbanceAfter_of_acceptance s _ hidle Phase.noConfusion).trans hquiet
      chip := trivial }

/-- Settles O50: at the end of the ST0 the chip has received all three of its writes. -/
theorem calibratedSt0ProgramsTimer0 : Obligations.CalibratedSt0ProgramsTimer0 := by
  intro s lsb msb hi hn ha hr hown hcal
  obtain ⟨u, hstep, hiu, hstart⟩ := programmingTimer0_acceptSt0 hi hn ha hown
  obtain ⟨-, hcycle, -⟩ := step_surroundings hstep
  have hclock := hstart.clock
  obtain ⟨t, hreach, -, ht, hrest⟩ := (programmingTimer0_keptWhileBusy s lsb msb hcal).exists_reaches hiu hstart
    (n := 15 * s.cfg.nDly + 3) (noReset_of_step hstep hr) (by omega)
  have hidle : t.phase = .idle := remaining_eq_zero_iff.1 (by omega)
  have hchip := ht.chip
  rw [st0Done_of_idle hidle] at hchip
  exact ⟨t, (reaches_of_step hstep).2 hreach, divisorOf_eq_ofNat msb lsb ▸ hchip⟩

end Sys2Proof.Machine
end

section
/-! Reset, the launch state, and the hazards of the bus lines (70_reset_and_hazards.md R200, R201, R211, R217): O1, O2,
O35 and O36. -/

namespace Sys2Proof.Machine

variable {inp : Input} {s t : State} {n : Nat}

/-! ### Reset (R200, R201) -/

/-- A cycle with `rst = 1` is the reset of the block with the clock edge around it, from any state. -/
theorem step_of_reset (hr : s.currentInput.rst = true) :
    step s = .next (s.resetBlock.nextCycle (s.nextPit s.resetBlock)) :=
  step_eq_next_iff.2 ⟨s.resetBlock, if_pos hr, rfl⟩

theorem status_of_reset (s : State) (pit : Pit) : (s.resetBlock.nextCycle pit).status = 0b0000 := by
  simp [State.status, State.busy]

/-- Settles O1: the next state is the reset block after the clock edge, whose outputs are not enabled. -/
theorem rstLeavesTheResetState : Obligations.RstLeavesTheResetState := by
  intro s hr
  refine ⟨by simp [State.cmdReady, hr], _, step_of_reset hr, ?_⟩
  exact ⟨rfl, rfl, rfl, rfl, rfl, rfl, rfl, rfl, rfl, rfl, rfl, rfl, rfl, rfl, rfl, rfl, drives_of_disabled rfl,
    status_of_reset s _, rfl⟩

/-- Settles O2, field by field. -/
theorem launchStateIsTheResetColumn : Obligations.LaunchStateIsTheResetColumn :=
  ⟨rfl, rfl, rfl, rfl, rfl, rfl, rfl, rfl, rfl, rfl, rfl, rfl, rfl, rfl, rfl⟩

/-! ### What a cycle with no reset does to the lines -/

/-- A move changes the address, the data or `OE` only from IDLE or XF_D, and then into IDLE or XF_S. -/
theorem Move.bus_kept_or_phases (h : Move inp s t) (hr : inp.rst = false) :
    (t.a1 = s.a1 ∧ t.a0 = s.a0 ∧ t.d = s.d ∧ t.oe = s.oe) ∨
      ((s.phase = .idle ∨ s.phase = .xfD) ∧ (t.phase = .idle ∨ t.phase = .xfS)) := by
  cases h with
  | reset h => exact nomatch h.symm.trans hr
  | init _ hp | seta _ hp | setd _ hp => exact .inr ⟨.inl hp, .inl hp⟩
  | st0 _ hp => exact .inr ⟨.inl hp, .inr rfl⟩
  | nextByte _ hp => exact .inr ⟨.inr hp, .inr rfl⟩
  | wait | illegal | notInit | xfer | delay | count | exitS | exitA | exitB | exitC | finish | exitDl =>
    exact .inl ⟨rfl, rfl, rfl, rfl⟩

/-- In those phases the invariant has both lines high: a move changes nothing else on the bus, or happens between two
cycles with CS# and WR# high. -/
theorem Move.bus_kept_or_lines_high (h : Move inp s t) (hi : s.Inv) (hr : inp.rst = false) :
    (t.a1 = s.a1 ∧ t.a0 = s.a0 ∧ t.d = s.d ∧ t.oe = s.oe) ∨
      ((s.csN = true ∧ t.csN = true) ∧ s.wrN = true ∧ t.wrN = true) := by
  have hit := h.keeps_inv hi
  refine (h.bus_kept_or_phases hr).imp_right fun ⟨hbefore, hafter⟩ => ⟨⟨?_, ?_⟩, ?_, ?_⟩
  · exact hi.csN_high (by tauto)
  · exact hit.csN_high (by tauto)
  · exact hi.wrN_high (by rcases hbefore with hp | hp <;> simp [hp])
  · exact hit.wrN_high (by rcases hafter with hp | hp <;> simp [hp])

/-- The moves that change WR# are the exits of XF_A and XF_B, which leave CS# low. -/
theorem Move.wrN_eq_of_csN_ne (h : Move inp s t) (hi : s.Inv) (hr : inp.rst = false) (hcs : t.csN ≠ s.csN) :
    t.wrN = s.wrN := by
  cases h with
  | reset h => exact nomatch h.symm.trans hr
  | init _ hp | st0 _ hp => exact (hi.wrN_high (by simp [hp])).symm
  | exitA | exitB => exact absurd rfl hcs
  | wait | illegal | notInit | seta | setd | xfer | delay | count | exitS | exitC | nextByte | finish | exitDl => rfl

/-- CS# rises at XF_C's exit only (42_transfer.md R134). -/
theorem Move.eq_exitC_of_csN_rise (h : Move inp s t) (hi : s.Inv) (hr : inp.rst = false) (hs : s.csN = false)
    (ht : t.csN = true) : t = (s.setCs true).enter .xfD := by
  cases h with
  | reset h => exact nomatch h.symm.trans hr
  | exitC => rfl
  | init _ hp | st0 _ hp => exact nomatch hs.symm.trans (hi.csN_high (.inl hp))
  | xfer | exitS => exact nomatch ht
  | wait | illegal | notInit | seta | setd | delay | count | exitA | exitB | nextByte | finish | exitDl =>
    exact nomatch hs.symm.trans ht

/-! ### Stability (R211) -/

/-- While the counter of a phase runs, with no reset, the address and the data stay. -/
theorem exists_reaches_same_bus_of_le_dlyCnt (hb : s.phase ≠ .idle) (hu : s.unreachable = false) (hr : s.noReset n)
    (hn : n ≤ s.dlyCnt) : ∃ t, reaches n s t ∧ t.a1 = s.a1 ∧ t.a0 = s.a0 ∧ t.d = s.d := by
  induction n generalizing s with
  | zero => exact ⟨s, reaches_zero.2 rfl, rfl, rfl, rfl⟩
  | succ n ih =>
    obtain ⟨pit, hstep⟩ := step_counting hb hu (currentInput_rst_of_noReset hr) (by omega)
    obtain ⟨t, hreach, hbus⟩ := ih (s := s.countDown.nextCycle pit) hb hu (noReset_of_step hstep hr)
      (by rw [nextCycle_dlyCnt, countDown_dlyCnt]; omega)
    exact ⟨t, (reaches_of_step hstep).2 hreach, hbus⟩

/-- Settles O35: a step that touches the address or the data has CS# high on both sides, and CS# rises into XF_D, whose
counter runs for the rest of `N_DLY` cycles. -/
theorem addressAndDataStableAroundTheStrobe : Obligations.AddressAndDataStableAroundTheStrobe := by
  intro s t hi hstep hr
  have hit := everyStepKeepsTheInvariant s t hi hstep
  obtain ⟨u, hmove, rfl⟩ := move_of_step hstep
  constructor
  · intro hlow
    obtain ⟨ha1, ha0, hd, -⟩ | ⟨⟨hs, hu⟩, -⟩ := hmove.bus_kept_or_lines_high hi hr
    · exact ⟨ha1, ha0, hd⟩
    · simp [hs, hu] at hlow
  · intro hlow hhigh j hj hreset
    obtain rfl := hmove.eq_exitC_of_csN_rise hi hr hlow hhigh
    exact exists_reaches_same_bus_of_le_dlyCnt Phase.noConfusion hit.reachable hreset (Nat.le_sub_one_of_lt hj)

/-! ### Edges (R217) -/

/-- `OE` rises at the first INIT since reset only, and the block is then in IDLE on both sides (R27). -/
theorem Move.first_init_of_oe_ne (h : Move inp s t) (hi : s.Inv) (hr : inp.rst = false) (hoe : t.oe ≠ s.oe) :
    s.accepts inp = true ∧ decode inp.cmd = .ok .init ∧ s.initDone = false ∧ t.oe = true ∧ t.phase = .idle := by
  cases h with
  | reset h => exact nomatch h.symm.trans hr
  | init _ hp hv hd =>
    have hdisabled : s.oe = false := by simpa using hoe.symm
    exact ⟨accepts_of_idle hr hp hv, hd, hi.enabled.symm.trans hdisabled, rfl, hp⟩
  | wait | illegal | notInit | seta | setd | xfer | st0 | delay | count | exitS | exitA | exitB | exitC | nextByte
  | finish | exitDl => exact absurd rfl hoe

/-- Settles O36: by what a move with no reset does to the lines; in IDLE the lines that INIT begins to drive are high,
and after a reset no pin is driven. -/
theorem edgesAreSeparate : Obligations.EdgesAreSeparate := by
  intro s t hi hstep
  have hit := everyStepKeepsTheInvariant s t hi hstep
  have henabled := outputsEnabledByInitOnly s t hstep
  obtain ⟨u, hmove, rfl⟩ := move_of_step hstep
  refine ⟨fun hr => ⟨hmove.wrN_eq_of_csN_ne hi hr, fun hedge => ?bus, fun hoe => ?enable⟩, fun hr => ?reset⟩
  case bus =>
    refine (hmove.bus_kept_or_lines_high hi hr).resolve_right fun ⟨⟨hs, hu⟩, hs', hu'⟩ => ?_
    simp [hs, hu, hs', hu'] at hedge
  case enable =>
    obtain ⟨ha, hd, hn, ht, hp⟩ := hmove.first_init_of_oe_ne hi hr hoe
    have hdriven := drives_of_enabled (s := u.nextCycle (s.nextPit u)) ht
    refine ⟨ha, hd, hn, ht, drives_of_disabled (hi.enabled.trans hn), hdriven, ?_, ?_⟩
    · exact (hdriven .cs).trans (congrArg some (hit.csN_high (.inl hp)))
    · exact (hdriven .wr).trans (congrArg some (hit.wrN_high (by simp [hp])))
  case reset => exact drives_of_disabled (henabled.trans (if_pos hr))

end Sys2Proof.Machine
end

section
/-! A command disturbed by another agent on the bus bits (70_reset_and_hazards.md R212; log 27): from the disturbance to
the end of the command Timer 0 is a free value. O58 and O57. -/

namespace Sys2Proof.Machine

variable {s t u : State} {c j k n : Nat} {w : CommandWord}

/-! ### The record of a disturbance -/

/-- Timer 0 is a free value drawn in cycle `c` or later, and nothing of a triple has been received (R187, log 9). -/
def Pit.freeFrom (c : Nat) (p : Pit) : Prop := p.progress = .start ∧ ∃ k, c ≤ k ∧ p.timer0 = Config.timer0Draw k

theorem freeFrom_unknown (h : c ≤ k) : (Pit.unknown k).freeFrom c := ⟨rfl, k, h, rfl⟩

/-- A disturbed step draws the chip; once a disturbance is recorded, so does every write, and nothing else touches the
chip. -/
theorem chipAfter_freeFrom (hc : c ≤ s.cycle + 1)
    (h : busDisturbed s t = true ∨ (s.pit.strobeDisturbed = true ∧ s.pit.freeFrom c)) :
    (s.chipAfter t).freeFrom c := by
  obtain ⟨-, hchip⟩ | ⟨hquiet, -, hchip⟩ | ⟨w, hquiet, -, hchip⟩ := chipAfter_cases s t
  · exact hchip ▸ freeFrom_unknown hc
  · obtain ⟨-, hfree⟩ := h.resolve_left (by simp [hquiet])
    exact hchip ▸ hfree
  · obtain ⟨hrecorded, -⟩ := h.resolve_left (by simp [hquiet])
    rw [hchip, hrecorded, Bool.not_true, Bool.false_and, receive_unsound]
    exact freeFrom_unknown hc

theorem disturbanceAfter_eq_true_iff :
    s.disturbanceAfter t = true ↔
      t.phase ≠ .idle ∧ (busDisturbed s t = true ∨ (s.phase ≠ .idle ∧ s.pit.strobeDisturbed = true)) := by
  simp [State.disturbanceAfter]

theorem disturbanceRecorded_iff :
    s.disturbanceRecorded ↔
      (s.phase = .idle → s.pit.strobeDisturbed = false) ∧ (s.pit.strobeDisturbed = true → s.pit.freeFrom 0) := by
  simp [State.disturbanceRecorded, Pit.freeFrom]

/-- Settles O58: nothing is recorded at reset; the record is set by a disturbed step or stays with a command, and both
leave the chip free. -/
theorem everyStepKeepsTheDisturbanceRecord : Obligations.EveryStepKeepsTheDisturbanceRecord := by
  refine ⟨⟨fun _ => rfl, nofun⟩, fun s t hrec hstep => ?_⟩
  obtain ⟨u, -, rfl⟩ := move_of_step hstep
  obtain ⟨-, hfree⟩ := disturbanceRecorded_iff.1 hrec
  refine disturbanceRecorded_iff.2 ⟨disturbanceAfter_of_idle s u, fun hset => ?_⟩
  obtain ⟨-, hcause⟩ := disturbanceAfter_eq_true_iff.1 hset
  exact chipAfter_freeFrom (Nat.zero_le _) (hcause.imp_right fun ⟨_, hrecorded⟩ => ⟨hrecorded, hfree hrecorded⟩)

/-! ### From the disturbed cycle to the end of the command -/

/-- A disturbance before this cycle, in cycle `c - 1` or later, still tells: Timer 0 is free, and while the command goes
on the disturbance is recorded (log 27). -/
structure DisturbedSince (c : Nat) (t : State) : Prop where
  free : t.pit.freeFrom c
  recorded : t.phase ≠ .idle → t.pit.strobeDisturbed = true
  clock : c ≤ t.cycle

/-- It tells after a step in which another agent drives the bus bits, and goes on to tell while the block is busy. -/
theorem disturbedSince_of_step (hstep : step s = .next t) (hc : c ≤ s.cycle + 1)
    (h : s.currentInput.foreignDrive = true ∨ (s.phase ≠ .idle ∧ DisturbedSince c s)) : DisturbedSince c t := by
  obtain ⟨-, hcycle, -⟩ := step_surroundings hstep
  obtain ⟨u, -, rfl⟩ := move_of_step hstep
  have hcause : busDisturbed s u = true ∨ (s.phase ≠ .idle ∧ s.pit.strobeDisturbed = true ∧ s.pit.freeFrom c) :=
    h.imp (fun hf => busDisturbed_iff.2 (.inr (.inr hf))) fun ⟨hb, hd⟩ => ⟨hb, hd.recorded hb, hd.free⟩
  exact
    { free := chipAfter_freeFrom hc (hcause.imp_right And.right)
      recorded := fun hb =>
        disturbanceAfter_eq_true_iff.2 ⟨hb, hcause.imp_right fun ⟨hbusy, hset, _⟩ => ⟨hbusy, hset⟩⟩
      clock := hcycle ▸ hc }

theorem disturbedSince_keptWhileBusy (c : Nat) : KeptWhileBusy (DisturbedSince c) := fun _ _ _ h _ hb hstep =>
  disturbedSince_of_step hstep (h.clock.trans (Nat.le_succ _)) (.inr ⟨hb, h⟩)

theorem cycle_of_reaches (h : reaches n s t) : t.cycle = s.cycle + n := by
  induction n generalizing s with
  | zero => rw [reaches_zero.1 h, Nat.add_zero]
  | succ n ih =>
    obtain ⟨v, hstep, hrest⟩ := reaches_succ.1 h
    obtain ⟨-, hcycle, -⟩ := step_surroundings hstep
    rw [ih hrest, hcycle]
    omega

theorem State.Inv.of_reaches (hi : s.Inv) (h : reaches n s t) : t.Inv := by
  induction n generalizing s with
  | zero => exact reaches_zero.1 h ▸ hi
  | succ n ih =>
    obtain ⟨v, hstep, hrest⟩ := reaches_succ.1 h
    exact ih (everyStepKeepsTheInvariant s v hi hstep) hrest

/-- A run of one more cycle is the run and then its last step. -/
theorem exists_last_step_of_reaches (h : reaches (n + 1) s u) : ∃ t, reaches n s t ∧ step t = .next u := by
  induction n generalizing s with
  | zero => exact ⟨s, reaches_zero.2 rfl, reaches_one.1 h⟩
  | succ n ih =>
    obtain ⟨v, hstep, hrest⟩ := reaches_succ.1 h
    obtain ⟨t, hreach, hlast⟩ := ih hrest
    exact ⟨t, (reaches_of_step hstep).2 hreach, hlast⟩

/-- Behind cycle `j` of a run, if another agent drives the bus bits in it, the disturbance tells. -/
theorem disturbedSince_of_reaches (h : reaches (j + 1) s t) (hf : (s.inputAt j).foreignDrive = true) :
    DisturbedSince (s.cycle + 1) t := by
  obtain ⟨v, hreach, hstep⟩ := exists_last_step_of_reaches h
  have hforeign : v.currentInput.foreignDrive = true := by
    rw [currentInput_eq_inputAt, inputAt_of_reaches hreach, Nat.zero_add, hf]
  exact disturbedSince_of_step hstep (by rw [cycle_of_reaches hreach]; omega) (.inl hforeign)

/-- Any word's cycles, one of them disturbed and none of them a reset, end with Timer 0 a free value drawn since the
acceptance. -/
theorem exists_reaches_free_of_disturbed (hi : s.Inv) (ha : s.acceptsWord w) (hr : s.noReset (wordOccupancy s w))
    (hj : j < wordOccupancy s w) (hf : (s.inputAt j).foreignDrive = true) :
    ∃ t k, reaches (wordOccupancy s w) s t ∧ t.pit.timer0 = Config.timer0Draw k ∧ s.cycle < k ∧
      t.pit.progress = .start := by
  obtain ⟨u, hreach, hrest⟩ := exists_reaches_of_acceptsWord hi ha hr (Nat.le_add_left 1 j) hj
  rw [← hrest] at hr
  obtain ⟨t, hreach', -, ht, -⟩ := (disturbedSince_keptWhileBusy _).exists_reaches (hi.of_reaches hreach)
    (disturbedSince_of_reaches hreach hf) (noReset_of_reaches hreach hr) le_rfl
  obtain ⟨hprogress, k, hk, htimer0⟩ := ht.free
  rw [← hrest, Nat.add_comm u.remaining]
  exact ⟨t, k, reaches_trans hreach hreach', htimer0, hk, hprogress⟩

/-- Settles O57: an XFER and an ST0 are words with the cycles of R79. -/
theorem disturbedCommandIsNoPartOfATriple : Obligations.DisturbedCommandIsNoPartOfATriple := by
  intro s j hi hn hf
  constructor
  · intro ha hr hj
    have hcycles : wordOccupancy s 0x40000 = 5 * s.cfg.nDly + 1 :=
      wordOccupancy_of_ok (decodeOfEncode .xfer) (.inr hn)
    rw [← hcycles] at hr hj ⊢
    exact exists_reaches_free_of_disturbed hi ha hr hj hf
  · intro lsb msb ha hr hj
    have hcycles : wordOccupancy s (encode (.st0 lsb msb)) = 15 * s.cfg.nDly + 4 :=
      wordOccupancy_of_ok (decodeOfEncode _) (.inr hn)
    rw [← hcycles] at hr hj ⊢
    exact exists_reaches_free_of_disturbed hi ha hr hj hf

end Sys2Proof.Machine
end
